-- ==== Sys2Proof/Word.lean ====
section
/-!
DEFINITION. The word types of the Zisora Q34, by the width the manual gives each value.
-/
namespace Sys2Proof

/-- One byte of a frame (R165, R181). -/
abbrev Byte := BitVec 8

/-- A 16-bit value: session numbers, epochs, sequence numbers, tags, revolution counts (00_scope.md). -/
abbrev Half := BitVec 16

/-- A 32-bit value: the tick counter (R1) and every position (R9, R10), read as signed by `toInt`. -/
abbrev Word := BitVec 32

end Sys2Proof
end

