-- ==== Sys2Proof/Config.lean ====
section
/-!
DEFINITION. What the part fixes: the numbers of the manual's "Numbers at a glance" (00_scope.md) and of the
rules named beside them. The manual leaves no value free, so there is no opaque constant here.
-/
namespace Sys2Proof.Config

/-- Oscillator periods in one tick (R1). -/
abbrev periodsPerTick : Nat := 16

/-- Ticks in one millisecond (R2). -/
abbrev ticksPerMs : Nat := 1000

/-- Filter length after device reset (R23). -/
abbrev resetFilterLen : Nat := 4

/-- The longest filter length (R18). -/
abbrev maxFilterLen : Nat := 32

/-- The largest modulus (R18). -/
abbrev maxModulus : Nat := 2147483647

/-- The size of the trigger table, which is also the sum the quotas keep within (R39, R46). -/
abbrev slotCount : Nat := 96

/-- Notes a queue holds (R109). -/
abbrev queueCap : Nat := 16

/-- The value at which the count of an owed entry holds (R114). -/
abbrev countCap : Nat := 65535

/-- Notes one NOTE_READ returns at most (R117). -/
abbrev maxRead : Nat := 4

/-- Entries one TRIG_LIST returns at most (R64). -/
abbrev listPage : Nat := 8

/-- The limit of a snapshot delta, either way (R131). -/
abbrev deltaLimit : Int := 2147483647

/-- Parameter bytes of a request at most (R169). -/
abbrev maxParams : Nat := 24

/-- Whole bytes of 0xFF that make a resync (R167). -/
abbrev resyncBytes : Nat := 8

/-- First byte of a request frame (section 10.4). -/
abbrev requestSync : Byte := 0x5A

/-- First byte of an outgoing frame (R166, section 10.4). -/
abbrev outgoingSync : Byte := 0xA6

end Sys2Proof.Config
end

