-- ==== Sys2Proof/Syntax.lean ====
section
/-!
DEFINITION. The commands of the block: one constructor of `Instr` for each row of spec/opcode_table.json, in the
table's order. The table gives its rows no operands; those below are the model's (log 4).
-/
namespace Sys2Proof

/-- The three master ports (00_scope.md, "Numbering"). -/
inductive Port where
  | a | b | c
  deriving DecidableEq, Repr

/-- Axes 0 to 3. -/
abbrev Axis := Fin 4

/-- Output lines 0 to 7. -/
abbrev LineNo := Fin 8

/-- Trigger slots 0 to 95. -/
abbrev SlotNo := Fin 96

/-- The four inputs of an axis (section 1.2). -/
inductive Input where
  | pha | phb | idx | home
  deriving DecidableEq, Repr

/-- Levels of the four pins of one axis; `true` is high. -/
structure AxisPins where
  pha : Bool
  phb : Bool
  idx : Bool
  home : Bool
  deriving DecidableEq, Repr

/-- The inputs an axis unit takes together: both phases in one decoder step (R5 to R8), both reference inputs in one
step of the reference unit (R26). The two steps of one sample come in either order (R34, R35). -/
inductive InputPair where
  | phases | references
  deriving DecidableEq, Repr

/-- The two makers of notifications of one count arrival or one reference: the axis unit and the trigger table
(R186). -/
inductive Maker where
  | axis | table
  deriving DecidableEq, Repr

/-- Which maker the unit of each port hears first when one count arrival or one reference leads both to report: each
unit in its own order (R186; log 5). -/
structure Makers where
  a : Maker
  b : Maker
  c : Maker
  deriving DecidableEq, Repr

/-- The maker port `p`'s unit hears first. -/
def Makers.first (m : Makers) : Port → Maker
  | .a => m.a
  | .b => m.b
  | .c => m.c

/-- Every unit hears the axis unit first. -/
abbrev Makers.axisFirst : Makers := ⟨.axis, .axis, .axis⟩

/-- Every unit hears the trigger table first. -/
abbrev Makers.tableFirst : Makers := ⟨.table, .table, .table⟩

/-- The sources of a device reset (R146). -/
inductive ResetSource where
  | powerOn | pin | supplyLow
  deriving DecidableEq, Repr

/-- The commands. The bits of a transaction are those the master shifted in, in the order they came (R165). -/
inductive Instr where
  | deviceReset (source : ResetSource)
  | tick
  | inputSettling (axis : Axis) (input : Input)
  | acceptedChange (axis : Axis) (inputs : InputPair) (makers : Makers)
  | stallTimerExpiry (axis : Axis)
  | matchCountArrival (axis : Axis)
  | referenceRecord (axis : Axis)
  | pulseExpiry (line : LineNo)
  | keepaliveExpiry (port : Port)
  | tablePurge (port : Port)
  | linePurge (port : Port)
  | notePurge (port : Port)
  | viewPurge (port : Port)
  | axisRightsPurge (port : Port)
  | purgeClose (port : Port)
  | transactionStart (port : Port)
  | poll (port : Port) (bits : List Bool)
  | resync (port : Port) (bits : List Bool)
  | requestFrame (port : Port) (bits : List Bool)
  | nop (port : Port)
  | openSession (port : Port)
  | closeSession (port : Port)
  | status (port : Port)
  | axisClaim (port : Port)
  | axisRelease (port : Port)
  | axisSet (port : Port)
  | axisClearDoubt (port : Port)
  | axisRead (port : Port)
  | axisRefarm (port : Port)
  | axisPreset (port : Port) (makers : Makers)
  | trigDefine (port : Port)
  | trigArm (port : Port)
  | trigDisarm (port : Port)
  | trigDelete (port : Port)
  | trigRead (port : Port)
  | trigList (port : Port)
  | lineClaim (port : Port)
  | lineRelease (port : Port)
  | lineDrive (port : Port)
  | lineRead (port : Port)
  | noteRead (port : Port)
  | noteAck (port : Port)
  | snap (port : Port)
  | snapAxisStep (port : Port)
  | subscribe (port : Port)
  | sample (pins : Vector AxisPins 4)
  | resetRelease
  deriving DecidableEq, Repr

end Sys2Proof
end

