-- ==== Sys2Proof/Decode.lean ====
section
/-!
DEFINITION. The command a word spells by the bits of spec/opcode_table.json. No row of the table gives bits, so no word
spells a command (log 13). The bytes of request frames are decoded by `parseFrame` and `Cmd.ofNumber`
(Machine/Operands.lean).
-/
namespace Sys2Proof

/-- No row of the table gives bits. -/
def decodeTableWord (_nbits _w : Nat) : Option Instr := none

end Sys2Proof
end

