-- ==== Sys2Proof/Machine/State.lean ====
section
/-!
DEFINITION. The state of the Zisora Q34: every block's registers, lists and timers, as plain data, the queue of
commands, and the state right after reset. Accessors and one update function per group stand at the end.
-/
namespace Sys2Proof.Machine

/-- The reasons a command could stop the part. There is none: the manual names no fault, and every command of the
model answers a next state (log 1). Safe. -/
inductive Fault where
  deriving DecidableEq, Repr

/-- The reasons the model could decline a command. -/
inductive Refusal where
  /-- Raised by the arm of `exec` of a command that has no meaning yet (none at present). Safe: the model stops. -/
  | notModelled (mnemonic : String)
  deriving DecidableEq, Repr

/-! ### Like things by number -/

/-- One thing for each port A, B, C. -/
structure PerPort (α : Type) where
  a : α
  b : α
  c : α
  deriving DecidableEq, Repr

/-- The thing of port `p`. -/
def PerPort.get {α : Type} (x : PerPort α) : Port → α
  | .a => x.a
  | .b => x.b
  | .c => x.c

/-- The same things but for port `p`. -/
def PerPort.set {α : Type} (x : PerPort α) : Port → α → PerPort α
  | .a, v => { x with a := v }
  | .b, v => { x with b := v }
  | .c, v => { x with c := v }

/-- The same thing for every port. -/
def PerPort.all {α : Type} (v : α) : PerPort α := ⟨v, v, v⟩

/-! ### Timers (R2) -/

/-- A timer. `due` is a timer whose last tick has come and whose expiry has not yet been taken: the expiry and
other events of that tick may come in either order (R15, R104, R156). -/
inductive Timer where
  | stopped
  | running (ticks : Nat)
  | due
  deriving DecidableEq, Repr

/-! ### Axis unit (chapters 1 and 2) -/

/-- Decode modes (R6, R8). -/
inductive DecodeMode where
  | quadX4 | stepDir
  deriving DecidableEq, Repr

/-- Edge selections (R26). -/
inductive Edge where
  | rising | falling
  deriving DecidableEq, Repr

/-- The axis configuration (R18, R23). -/
structure AxisConfig where
  mode : DecodeMode
  reverse : Bool
  filterLen : Nat
  modulus : Nat
  stallLimit : Nat
  preset : Word
  indexEdge : Edge
  homeEdge : Edge
  deriving DecidableEq, Repr

/-- One input filter (R3, R4). `level` is the filtered state, none while the input is unsettled. While unsettled,
`streak` counts the consecutive samples that showed `candidate`. `settledNow`: it settled at the latest sample. -/
structure Filter where
  level : Option Bool
  run : Nat
  candidate : Bool
  streak : Nat
  settledNow : Bool
  deriving DecidableEq, Repr

/-- The four filters of an axis. -/
structure Inputs where
  pha : Filter
  phb : Filter
  idx : Filter
  home : Filter
  deriving DecidableEq, Repr

/-- Motion states (R13). -/
inductive MotionState where
  | off | still | moving
  deriving DecidableEq, Repr

/-- Reference states (R25). Then-index means something in REF_WAIT_HOME only. -/
inductive RefState where
  | idle
  | waitHome (thenIndex : Bool)
  | waitIndex
  | everyIndex
  deriving DecidableEq, Repr

/-- One axis unit with its reference unit (R23, R25). -/
structure AxisUnit where
  config : AxisConfig
  inputs : Inputs
  position : Word
  revolution : Half
  epoch : Half
  motion : MotionState
  stallTimer : Timer
  doubt : Bool
  refState : RefState
  deriving DecidableEq, Repr

/-- The direction of a count arrival (R11). -/
inductive CountDir where
  | up | down
  deriving DecidableEq, Repr

/-- The record of a count arrival (R11). -/
structure Arrival where
  axis : Axis
  dir : CountDir
  position : Word
  epoch : Half
  tick : Word
  deriving DecidableEq, Repr

/-- Why a reference was taken (section 2.5). -/
inductive Reason where
  | home | index | preset | config
  deriving DecidableEq, Repr

/-- A reference record (R30). -/
structure Reference where
  axis : Axis
  reason : Reason
  oldPosition : Word
  newPosition : Word
  epoch : Half
  tick : Word
  deriving DecidableEq, Repr

/-- What an axis unit hands to the trigger table (R31). -/
inductive AxisRecord where
  | arrival (r : Arrival)
  | reference (r : Reference)
  deriving DecidableEq, Repr

/-! ### Trigger table (chapters 3 and 4) -/

/-- States of a slot in use; a FREE slot is `none` in the table (R39, R41). -/
inductive SlotState where
  | staged | armed | retiring
  deriving DecidableEq, Repr

/-- Directions a slot waits for (R39, R68). -/
inductive SlotDir where
  | up | down | either
  deriving DecidableEq, Repr

/-- Line actions (R70, R100, R101); the width is present exactly with PULSE (R40). -/
inductive LineAction where
  | set | clear | toggle
  | pulse (width : Nat)
  deriving DecidableEq, Repr

/-- An action other than NONE names its line (R40). -/
structure LineJob where
  line : LineNo
  act : LineAction
  deriving DecidableEq, Repr

/-- Pitch with its counts of fires, present together (R40). -/
structure Repeat where
  pitch : Word
  firesTotal : Nat
  firesLeft : Nat
  deriving DecidableEq, Repr

/-- KEEP or DROP (R79). -/
inductive Bind where
  | keep | drop
  deriving DecidableEq, Repr

/-- The record of a slot that is not FREE (R39). `job` none is action NONE; `rep` none is no pitch. -/
structure Trigger where
  state : SlotState
  owner : Port
  tag : Half
  axis : Axis
  origin : Word
  target : Word
  dir : SlotDir
  job : Option LineJob
  rep : Option Repeat
  successor : Option SlotNo
  retain : Bool
  bind : Bind
  notify : Bool
  deriving DecidableEq, Repr

/-! ### Output lines (chapter 5) -/

/-- Polarities (R92). -/
inductive Polarity where
  | activeHigh | activeLow
  deriving DecidableEq, Repr

/-- Release levels (R92). -/
inductive Release where
  | low | high | float
  deriving DecidableEq, Repr

/-- The state of a line (R92). -/
inductive LineState where
  | inactive | active
  deriving DecidableEq, Repr

/-- One line record (R92). -/
structure LineRec where
  owner : Option Port
  polarity : Polarity
  release : Release
  state : LineState
  timer : Timer
  deriving DecidableEq, Repr

/-! ### Notification units (chapter 6) -/

/-- Note kinds (R111). -/
inductive NoteKind where
  | fire | chainMiss | rerefDisarm | motion | still | reref | doubt
  deriving DecidableEq, Repr

/-- What a note is about (R110). -/
inductive Source where
  | slot (n : SlotNo)
  | axis (a : Axis)
  deriving DecidableEq, Repr

/-- The extra field (R111). -/
inductive Extra where
  | none
  | successor (n : SlotNo)
  | reref (oldPosition : Word) (reason : Reason)
  deriving DecidableEq, Repr

/-- A notification as its maker made it (R111); the tag is there for the trigger kinds. -/
structure Report where
  kind : NoteKind
  source : Source
  tag : Option Half
  axis : Axis
  position : Word
  tick : Word
  epoch : Half
  extra : Extra
  deriving DecidableEq, Repr

/-- A note in the queue (R111). -/
structure Note where
  seq : Half
  count : Nat
  report : Report
  deriving DecidableEq, Repr

/-- An owed entry; its report holds the latest fields (R114). -/
structure Owed where
  count : Nat
  report : Report
  deriving DecidableEq, Repr

/-- A driven pin (R109). -/
inductive PinLevel where
  | low | high
  deriving DecidableEq, Repr

/-- One notification unit (R109). -/
structure NoteUnit where
  intake : Bool
  queue : List Note
  nextSeq : Half
  owed : List Owed
  ntf : PinLevel
  deriving DecidableEq, Repr

/-! ### View unit (chapter 7) -/

/-- One snapshot context (R131). -/
structure Context where
  delta : Int
  sat : Bool
  baseTick : Word
  rerefSince : Bool
  doubtSeen : Bool
  deriving DecidableEq, Repr

/-- The four contexts and four subscription masks of one port (R131, R140). -/
structure View where
  contexts : Vector Context 4
  masks : Vector (BitVec 4) 4
  deriving DecidableEq, Repr

/-! ### Session manager (chapter 8) -/

/-- Session states (R145). -/
inductive SessionState where
  | closed | opened
  deriving DecidableEq, Repr

/-- A purge that runs: what began it and which blocks have taken their step (R157). -/
structure Purge where
  byExpiry : Bool
  table : Bool
  lines : Bool
  notes : Bool
  view : Bool
  rights : Bool
  deriving DecidableEq, Repr

/-- One session record (R145). The session is ending while `purge` is some. -/
structure Session where
  state : SessionState
  purge : Option Purge
  number : Half
  keepalive : Nat
  timer : Timer
  quota : Nat
  fresh : Bool
  lost : Bool
  deriving DecidableEq, Repr

/-! ### Port link units (chapter 9) -/

/-- The port slot (R164). -/
inductive PortSlot where
  | empty | pending | ready
  deriving DecidableEq, Repr

/-- Reject notes (R164). -/
inductive Reject where
  | none | length | crc | pending
  deriving DecidableEq, Repr

/-- Result codes (section 10.6). -/
inductive Result where
  | ok | unknown | noSession | sessionOpen | badArg | range | notOwner | owned | notClaimed | noRoom | inUse | state
  | epoch | seqUnknown
  deriving DecidableEq, Repr

/-- A request as the unit holds it; LEN is the number of parameter bytes (R164, R169). -/
structure Request where
  tag : Byte
  cmd : Byte
  params : List Byte
  deriving DecidableEq, Repr

/-- A held response; DLEN is the number of data bytes (R164, R175). -/
structure Response where
  tag : Byte
  result : Result
  data : List Byte
  deriving DecidableEq, Repr

/-- A SNAP between axis steps: axes still to come, the flag word and the records so far (R135, R185). -/
structure SnapRun where
  todo : List Axis
  flags : Half
  records : List Byte
  deriving DecidableEq, Repr

/-- How far the command in flight is (R173): held while the session ends; on its way to its first step (an arbiter
command then waits or is granted, as the arbiter says); a SNAP between its axis steps; a CLOSE whose purge runs. -/
inductive Stage where
  | held
  | started
  | snapping (run : SnapRun)
  | closing
  deriving DecidableEq, Repr

/-- The command in flight. A resync clears the held request but not this (R168). -/
structure Flight where
  request : Request
  stage : Stage
  deriving DecidableEq, Repr

/-- One port link unit (R164, R165). -/
structure Link where
  slot : PortSlot
  discard : Bool
  heldRequest : Option Request
  heldResponse : Option Response
  reject : Reject
  rejectTag : Byte
  flight : Option Flight
  selectLow : Bool
  inTransaction : Bool
  outFrame : List Byte
  deriving DecidableEq, Repr

/-- Reset causes (R145, R146). -/
inductive ResetCause where
  | powerOn | pin | supplyLow
  deriving DecidableEq, Repr

/-! ### The whole part -/

/-- The state of the part and the queue of commands. -/
structure State where
  pending : List Instr
  tick : Word
  periods : Nat
  inReset : Bool
  resetCause : ResetCause
  pins : Vector AxisPins 4
  axes : Vector AxisUnit 4
  slots : Vector (Option Trigger) 96
  armLists : Vector (List SlotNo) 4
  held : PerPort Nat
  tableEpoch : Vector Half 4
  tableIn : Vector (List AxisRecord) 4
  lines : Vector LineRec 8
  notes : PerPort NoteUnit
  views : PerPort View
  sessions : PerPort Session
  unreserved : Nat
  axisRights : Vector (Option Port) 4
  links : PerPort Link
  grant : Option Port
  waiting : PerPort Bool
  lastServed : Port
  deriving DecidableEq, Repr

/-! ### Values after reset -/

/-- An axis's configuration after device reset (R23). -/
def AxisConfig.reset : AxisConfig where
  mode := .quadX4
  reverse := false
  filterLen := Config.resetFilterLen
  modulus := 0
  stallLimit := 0
  preset := 0
  indexEdge := .rising
  homeEdge := .rising

/-- An unsettled filter with run length 0 (R4, R23). The candidate level is a DESIGN CHOICE (log 12). -/
def Filter.reset : Filter where
  level := none
  run := 0
  candidate := false
  streak := 0
  settledNow := false

/-- An axis unit after device reset (R23, R25). -/
def AxisUnit.reset : AxisUnit where
  config := .reset
  inputs := ⟨.reset, .reset, .reset, .reset⟩
  position := 0
  revolution := 0
  epoch := 0
  motion := .off
  stallTimer := .stopped
  doubt := false
  refState := .idle

/-- A line after device reset (R93). -/
def LineRec.reset : LineRec where
  owner := none
  polarity := .activeHigh
  release := .float
  state := .inactive
  timer := .stopped

/-- A notification unit after device reset (R126). -/
def NoteUnit.reset : NoteUnit where
  intake := false
  queue := []
  nextSeq := 0
  owed := []
  ntf := .high

/-- A context just reset at tick `now` (R131). -/
def Context.resetAt (now : Word) : Context where
  delta := 0
  sat := false
  baseTick := now
  rerefSince := false
  doubtSeen := false

/-- A port's view with contexts reset at tick `now` and empty masks (R143, R144). -/
def View.resetAt (now : Word) : View where
  contexts := Vector.replicate 4 (.resetAt now)
  masks := Vector.replicate 4 0

/-- A session record after device reset (R145). -/
def Session.reset : Session where
  state := .closed
  purge := none
  number := 0
  keepalive := 0
  timer := .stopped
  quota := 0
  fresh := true
  lost := false

/-- A port link unit after device reset (R164). The select line is an input; high is a DESIGN CHOICE (log 11). -/
def Link.reset : Link where
  slot := .empty
  discard := false
  heldRequest := none
  heldResponse := none
  reject := .none
  rejectTag := 0
  flight := none
  selectLow := false
  inTransaction := false
  outFrame := []

/-- The part right after a power-on reset has been released, no command waiting (R1, R23, R65, R93, R126, R131,
R140, R145, R164, R179; log 3). Input pins low: DESIGN CHOICE (log 12). -/
def State.reset : State where
  pending := []
  tick := 0
  periods := 1
  inReset := false
  resetCause := .powerOn
  pins := Vector.replicate 4 ⟨false, false, false, false⟩
  axes := Vector.replicate 4 .reset
  slots := Vector.replicate 96 none
  armLists := Vector.replicate 4 []
  held := .all 0
  tableEpoch := Vector.replicate 4 0
  tableIn := Vector.replicate 4 []
  lines := Vector.replicate 8 .reset
  notes := .all .reset
  views := .all (.resetAt 0)
  sessions := .all .reset
  unreserved := Config.slotCount
  axisRights := Vector.replicate 4 none
  links := .all .reset
  grant := none
  waiting := .all false
  lastServed := .c

/-! ### Accessors and updates -/

namespace State

/-- Axis unit `a`. -/
def axis (s : State) (a : Axis) : AxisUnit := s.axes[a]

/-- Slot `n`; none is FREE. -/
def slot (s : State) (n : SlotNo) : Option Trigger := s.slots[n]

/-- Arm list of axis `a`. -/
def armList (s : State) (a : Axis) : List SlotNo := s.armLists[a]

/-- Table epoch of axis `a`. -/
def epochOf (s : State) (a : Axis) : Half := s.tableEpoch[a]

/-- Records on their way from axis unit `a` to the table. -/
def inbox (s : State) (a : Axis) : List AxisRecord := s.tableIn[a]

/-- Line `l`. -/
def line (s : State) (l : LineNo) : LineRec := s.lines[l]

/-- Owner of the configuration right of axis `a`. -/
def axisRight (s : State) (a : Axis) : Option Port := s.axisRights[a]

/-- Notification unit of port `p`. -/
def note (s : State) (p : Port) : NoteUnit := s.notes.get p

/-- View of port `p`. -/
def view (s : State) (p : Port) : View := s.views.get p

/-- Session record of port `p`. -/
def session (s : State) (p : Port) : Session := s.sessions.get p

/-- Port link unit of port `p`. -/
def link (s : State) (p : Port) : Link := s.links.get p

/-- Held count of port `p`. -/
def heldBy (s : State) (p : Port) : Nat := s.held.get p

/-- Change axis unit `a`. -/
def setAxis (a : Axis) (u : AxisUnit) (s : State) : State := { s with axes := s.axes.set a u }

/-- Change slot `n`. -/
def setSlot (n : SlotNo) (t : Option Trigger) (s : State) : State := { s with slots := s.slots.set n t }

/-- Change the arm list of axis `a`. -/
def setArmList (a : Axis) (l : List SlotNo) (s : State) : State := { s with armLists := s.armLists.set a l }

/-- Change the table epoch of axis `a`. -/
def setEpochOf (a : Axis) (e : Half) (s : State) : State := { s with tableEpoch := s.tableEpoch.set a e }

/-- Change the records on their way from axis `a`. -/
def setInbox (a : Axis) (l : List AxisRecord) (s : State) : State := { s with tableIn := s.tableIn.set a l }

/-- Change line `l`. -/
def setLine (l : LineNo) (r : LineRec) (s : State) : State := { s with lines := s.lines.set l r }

/-- Change the owner of the configuration right of axis `a`. -/
def setAxisRight (a : Axis) (o : Option Port) (s : State) : State := { s with axisRights := s.axisRights.set a o }

/-- Change the notification unit of port `p`. -/
def setNote (p : Port) (u : NoteUnit) (s : State) : State := { s with notes := s.notes.set p u }

/-- Change the view of port `p`. -/
def setView (p : Port) (v : View) (s : State) : State := { s with views := s.views.set p v }

/-- Change the session record of port `p`. -/
def setSession (p : Port) (r : Session) (s : State) : State := { s with sessions := s.sessions.set p r }

/-- Change the port link unit of port `p`. -/
def setLink (p : Port) (l : Link) (s : State) : State := { s with links := s.links.set p l }

/-- Change the held count of port `p`. -/
def setHeld (p : Port) (n : Nat) (s : State) : State := { s with held := s.held.set p n }

end State

end Sys2Proof.Machine
end

