-- ==== Sys2Proof/Machine/Operands.lean ====
section
/-!
DEFINITION. Every operand form: the bytes a master shifted in (R165, R167, R169), the CRC (R184), the fields of
parameters and responses (R181, R183), the codes (section 10.6) and the command numbers (section 10.5).
-/
namespace Sys2Proof.Machine

/-! ### Bits, bytes and words -/

/-- A bit as a number. -/
def bitNat (b : Bool) : Nat := if b then 1 else 0

/-- A byte from its bits, most significant first (R165). -/
def byteOfBits (b7 b6 b5 b4 b3 b2 b1 b0 : Bool) : Byte :=
  BitVec.ofNat 8 (128 * bitNat b7 + 64 * bitNat b6 + 32 * bitNat b5 + 16 * bitNat b4 + 8 * bitNat b3 + 4 * bitNat b2
    + 2 * bitNat b1 + bitNat b0)

/-- The whole bytes of a transaction; fewer than eight bits left over are discarded (R165). -/
def wholeBytes : List Bool → List Byte
  | b7 :: b6 :: b5 :: b4 :: b3 :: b2 :: b1 :: b0 :: rest => byteOfBits b7 b6 b5 b4 b3 b2 b1 b0 :: wholeBytes rest
  | _ => []

/-- The bits of a byte as they go over the wire, most significant first (R165). -/
def bitsOfByte (b : Byte) : List Bool :=
  [b.getLsbD 7, b.getLsbD 6, b.getLsbD 5, b.getLsbD 4, b.getLsbD 3, b.getLsbD 2, b.getLsbD 1, b.getLsbD 0]

/-- The bits of a row of bytes as they go over the wire. -/
def bitsOfBytes (bs : List Byte) : List Bool := bs.flatMap bitsOfByte

/-- A one-byte unsigned field (R181). -/
def byteOf (n : Nat) : Byte := BitVec.ofNat 8 n

/-- A two-byte field, least significant byte first (R181). -/
def le16 (w : Half) : List Byte := [w.extractLsb' 0 8, w.extractLsb' 8 8]

/-- A four-byte field, least significant byte first (R181). -/
def le32 (w : Word) : List Byte :=
  [w.extractLsb' 0 8, w.extractLsb' 8 8, w.extractLsb' 16 8, w.extractLsb' 24 8]

/-- A yes/no field as it is sent (R181). -/
def yesNo (b : Bool) : Byte := if b then 1 else 0

/-- The byte at offset `k` of the parameters. The length check of R174 comes before every use, so the default is
never met. -/
def paramByte (ps : List Byte) (k : Nat) : Byte := ps.getD k 0

/-- A one-byte unsigned parameter as a number. -/
def paramNat (ps : List Byte) (k : Nat) : Nat := (paramByte ps k).toNat

/-- A two-byte parameter (R181). -/
def paramHalf (ps : List Byte) (k : Nat) : Half := paramByte ps (k + 1) ++ paramByte ps k

/-- A four-byte parameter (R181). -/
def paramWord (ps : List Byte) (k : Nat) : Word :=
  paramByte ps (k + 3) ++ paramByte ps (k + 2) ++ paramByte ps (k + 1) ++ paramByte ps k

/-- A number as an index below `m`, if it is one. -/
def below (m n : Nat) : Option (Fin m) := if h : n < m then some ⟨n, h⟩ else none

/-! ### The CRC (R184) -/

/-- One shift of the remainder. -/
def crcShift (r : Byte) : Byte := if r.msb then (r <<< 1) ^^^ 0x07 else r <<< 1

/-- Taking one byte: exclusive-or into the remainder, then eight shifts. -/
def crcByte (r b : Byte) : Byte :=
  crcShift (crcShift (crcShift (crcShift (crcShift (crcShift (crcShift (crcShift (r ^^^ b))))))))

/-- The CRC-8 of a row of bytes. -/
def crc8 (bs : List Byte) : Byte := bs.foldl crcByte 0

/-! ### Transactions (R167, R169) -/

/-- What a transaction is judged as at its end. -/
inductive Verdict where
  | poll | resync | request
  deriving DecidableEq, Repr

/-- R167: first byte SYNC, a request frame; at least 8 whole bytes and every one 0xFF, a resync; anything else, a
poll. -/
def verdictOf (bytes : List Byte) : Verdict :=
  if bytes.head? = some Config.requestSync then .request
  else if Config.resyncBytes ≤ bytes.length ∧ bytes.all (· = 0xFF) then .resync
  else .poll

/-- What R169 makes of the bytes of a request frame. -/
inductive Parsed where
  | refused (reason : Reject) (tag : Byte)
  | valid (request : Request)
  deriving DecidableEq, Repr

/-- R169: the LENGTH check, then the CRC check; bytes after byte LEN + 5 are ignored. -/
def parseFrame : List Byte → Parsed
  | _ :: len :: rest =>
    if Config.maxParams < len.toNat ∨ rest.length + 2 < len.toNat + 5 then .refused .length (rest.getD 0 0)
    else if crc8 (len :: rest.take (len.toNat + 2)) = rest.getD (len.toNat + 2) 0 then
      .valid ⟨rest.getD 0 0, rest.getD 1 0, (rest.drop 2).take len.toNat⟩
    else .refused .crc (rest.getD 0 0)
  | _ => .refused .length 0

/-! ### Commands (sections 9.4 and 10.5) -/

/-- The commands a master can send. -/
inductive Cmd where
  | nop | openSession | closeSession | status | axisClaim | axisRelease | axisSet | axisClearDoubt | axisRead
  | axisRefarm | axisPreset | trigDefine | trigArm | trigDisarm | trigDelete | trigRead | trigList | lineClaim
  | lineRelease | lineDrive | lineRead | noteRead | noteAck | snap | subscribe
  deriving DecidableEq, Repr

/-- The command a number names (section 10.5). -/
def Cmd.ofNumber (n : Nat) : Option Cmd :=
  match n with
  | 0x00 => some .nop
  | 0x01 => some .openSession
  | 0x02 => some .closeSession
  | 0x03 => some .status
  | 0x04 => some .axisClaim
  | 0x05 => some .axisRelease
  | 0x10 => some .axisSet
  | 0x11 => some .axisClearDoubt
  | 0x12 => some .axisRead
  | 0x13 => some .axisRefarm
  | 0x14 => some .axisPreset
  | 0x20 => some .trigDefine
  | 0x21 => some .trigArm
  | 0x22 => some .trigDisarm
  | 0x23 => some .trigDelete
  | 0x24 => some .trigRead
  | 0x25 => some .trigList
  | 0x30 => some .lineClaim
  | 0x31 => some .lineRelease
  | 0x32 => some .lineDrive
  | 0x33 => some .lineRead
  | 0x40 => some .noteRead
  | 0x41 => some .noteAck
  | 0x50 => some .snap
  | 0x51 => some .subscribe
  | _ => none

/-- The command of a request; none is an unknown command (R173). -/
def Request.command (r : Request) : Option Cmd := Cmd.ofNumber r.cmd.toNat

/-- The exact parameter length (section 10.5). -/
def Cmd.paramLen : Cmd → Nat
  | .nop | .closeSession | .status => 0
  | .openSession | .lineClaim => 3
  | .axisSet => 16
  | .axisRefarm | .trigList | .noteAck | .subscribe => 2
  | .axisPreset => 5
  | .trigDefine => 22
  | .trigArm | .lineDrive => 4
  | .axisClaim | .axisRelease | .axisClearDoubt | .axisRead | .trigDisarm | .trigDelete | .trigRead | .lineRelease
  | .lineRead | .noteRead | .snap => 1

/-- Whether the command needs an open session (R174, section 9.4). -/
def Cmd.needsSession : Cmd → Bool
  | .nop | .openSession | .status => false
  | _ => true

/-- Whether the command waits at the table arbiter (section 9.4). -/
def Cmd.atArbiter : Cmd → Bool
  | .nop | .noteRead | .noteAck | .snap | .subscribe => false
  | _ => true

/-! ### Codes (section 10.6) -/

/-- A yes/no parameter (R181). -/
def yesNoOf (n : Nat) : Option Bool :=
  match n with
  | 0 => some false
  | 1 => some true
  | _ => none

/-- Decode mode from its code. -/
def DecodeMode.ofCode (n : Nat) : Option DecodeMode :=
  match n with
  | 0 => some .quadX4
  | 1 => some .stepDir
  | _ => none

/-- Code of a decode mode. -/
def DecodeMode.code : DecodeMode → Byte
  | .quadX4 => 0
  | .stepDir => 1

/-- Edge from its code. -/
def Edge.ofCode (n : Nat) : Option Edge :=
  match n with
  | 0 => some .rising
  | 1 => some .falling
  | _ => none

/-- Code of an edge. -/
def Edge.code : Edge → Byte
  | .rising => 0
  | .falling => 1

/-- Reference state and then-index from the arming kind (R28, section 10.6). -/
def RefState.ofArmingKind (n : Nat) : Option RefState :=
  match n with
  | 0 => some .idle
  | 1 => some (.waitHome false)
  | 2 => some (.waitHome true)
  | 3 => some .waitIndex
  | 4 => some .everyIndex
  | _ => none

/-- Code of a reference state. -/
def RefState.code : RefState → Byte
  | .idle => 0
  | .waitHome _ => 1
  | .waitIndex => 2
  | .everyIndex => 3

/-- Then-index as AXIS_READ sends it: 0 outside REF_WAIT_HOME (section 10.7). -/
def RefState.thenIndex : RefState → Bool
  | .waitHome t => t
  | _ => false

/-- Code of a motion state. -/
def MotionState.code : MotionState → Byte
  | .off => 0
  | .still => 1
  | .moving => 2

/-- Slot direction from its code. -/
def SlotDir.ofCode (n : Nat) : Option SlotDir :=
  match n with
  | 0 => some .up
  | 1 => some .down
  | 2 => some .either
  | _ => none

/-- Code of a slot direction. -/
def SlotDir.code : SlotDir → Byte
  | .up => 0
  | .down => 1
  | .either => 2

/-- Bind from its code. -/
def Bind.ofCode (n : Nat) : Option Bind :=
  match n with
  | 0 => some .keep
  | 1 => some .drop
  | _ => none

/-- Code of a bind. -/
def Bind.code : Bind → Byte
  | .keep => 0
  | .drop => 1

/-- Code of the state of a slot; none is FREE. -/
def slotStateCode : Option SlotState → Byte
  | none => 0
  | some .staged => 1
  | some .armed => 2
  | some .retiring => 3

/-- A line action from its code and width, with the width checks of R55 and R99; NONE (0) is not one. -/
def LineAction.ofCode (code width : Nat) : Option LineAction :=
  match code with
  | 1 => if width = 0 then some .set else none
  | 2 => if width = 0 then some .clear else none
  | 3 => if width = 0 then some .toggle else none
  | 4 => if width = 0 then none else some (.pulse width)
  | _ => none

/-- Code of a line action. -/
def LineAction.code : LineAction → Byte
  | .set => 1
  | .clear => 2
  | .toggle => 3
  | .pulse _ => 4

/-- Width of a line action as TRIG_READ sends it: 0 where it is absent (R183). -/
def LineAction.width : LineAction → Nat
  | .pulse w => w
  | _ => 0

/-- Polarity from its code. -/
def Polarity.ofCode (n : Nat) : Option Polarity :=
  match n with
  | 0 => some .activeHigh
  | 1 => some .activeLow
  | _ => none

/-- Code of a polarity. -/
def Polarity.code : Polarity → Byte
  | .activeHigh => 0
  | .activeLow => 1

/-- Release level from its code. -/
def Release.ofCode (n : Nat) : Option Release :=
  match n with
  | 0 => some .low
  | 1 => some .high
  | 2 => some .float
  | _ => none

/-- Code of a release level. -/
def Release.code : Release → Byte
  | .low => 0
  | .high => 1
  | .float => 2

/-- Code of a line state. -/
def LineState.code : LineState → Byte
  | .inactive => 0
  | .active => 1

/-- Code of a session state. -/
def SessionState.code : SessionState → Byte
  | .closed => 0
  | .opened => 1

/-- Code of a reset cause. -/
def ResetCause.code : ResetCause → Byte
  | .powerOn => 0
  | .pin => 1
  | .supplyLow => 2

/-- Code of a result. -/
def Result.code : Result → Byte
  | .ok => 0
  | .unknown => 1
  | .noSession => 2
  | .sessionOpen => 3
  | .badArg => 4
  | .range => 5
  | .notOwner => 6
  | .owned => 7
  | .notClaimed => 8
  | .noRoom => 9
  | .inUse => 10
  | .state => 11
  | .epoch => 12
  | .seqUnknown => 13

/-- Code of a reject note. -/
def Reject.code : Reject → Byte
  | .none => 0
  | .length => 1
  | .crc => 2
  | .pending => 3

/-- Code of the port slot (section 10.4). -/
def PortSlot.code : PortSlot → Byte
  | .empty => 0
  | .pending => 1
  | .ready => 2

/-- A port field (R181). -/
def portCode : Option Port → Byte
  | none => 0
  | some .a => 1
  | some .b => 2
  | some .c => 3

/-- Number of a note kind. -/
def NoteKind.num : NoteKind → Nat
  | .fire => 0
  | .chainMiss => 1
  | .rerefDisarm => 2
  | .motion => 3
  | .still => 4
  | .reref => 5
  | .doubt => 6

/-- Number of a reference reason. -/
def Reason.num : Reason → Nat
  | .home => 0
  | .index => 1
  | .preset => 2
  | .config => 3

/-! ### Records (section 10.7) -/

/-- The source byte of a note record. -/
def Source.byte : Source → Byte
  | .slot n => byteOf n
  | .axis a => byteOf a

/-- Offset 2 of the note record: kind, axis, and the reason of a REREF. -/
def Report.kindByte (r : Report) : Byte :=
  byteOf (r.kind.num + 8 * r.axis + 32 * (match r.extra with
    | .reref _ reason => reason.num
    | _ => 0))

/-- Offsets 16 to 19 of the note record. -/
def Report.tail (r : Report) : List Byte :=
  match r.extra with
  | .reref old _ => le32 old
  | .successor n => le16 (r.tag.getD 0) ++ [byteOf n, 0]
  | .none =>
    match r.tag with
    | some t => le16 t ++ [0xFF, 0]
    | none => [0, 0, 0, 0]

/-- The 20-byte note record. -/
def Note.record (n : Note) : List Byte :=
  le16 n.seq ++ [n.report.kindByte] ++ le16 (BitVec.ofNat 16 n.count) ++ [n.report.source.byte]
    ++ le32 n.report.position ++ le32 n.report.tick ++ le16 n.report.epoch ++ n.report.tail

/-- The 29-byte record of TRIG_READ, absent fields as their markers (R63, R183). -/
def Trigger.record (t : Trigger) : List Byte :=
  [slotStateCode (some t.state)] ++ le16 t.tag ++ [byteOf t.axis] ++ le32 t.origin ++ le32 t.target ++ [t.dir.code]
    ++ (match t.job with
      | some j => [j.act.code, byteOf j.line] ++ le16 (BitVec.ofNat 16 j.act.width)
      | none => [0, 0xFF, 0, 0])
    ++ (match t.rep with
      | some r => le32 r.pitch ++ le16 (BitVec.ofNat 16 r.firesTotal) ++ le16 (BitVec.ofNat 16 r.firesLeft)
      | none => [0, 0, 0, 0, 0, 0, 0, 0])
    ++ [(match t.successor with
      | some n => byteOf n
      | none => 0xFF), yesNo t.retain, t.bind.code, yesNo t.notify]

end Sys2Proof.Machine
end

