-- ==== Sys2Proof/Machine/Flags.lean ====
section
/-!
DEFINITION. The flag words: the STATE byte of an outgoing frame (section 10.4), the flag word of SNAP (R185) and the
bits of a subscription mask (section 10.6).
-/
namespace Sys2Proof.Machine

/-- STATE: bit 0 session open (an ending session still shows open, R166), bit 1 FRESH, bit 2 SESSION_LOST. -/
def Session.stateByte (r : Session) : Byte :=
  byteOf (bitNat (r.state = .opened) + 2 * bitNat r.fresh + 4 * bitNat r.lost)

/-- The four flag bits of one axis: SAT, REREF_SINCE, DOUBT_SEEN, DOUBT, lowest first (R185). -/
def snapBits (c : Context) (doubt : Bool) : Nat :=
  bitNat c.sat + 2 * bitNat c.rerefSince + 4 * bitNat c.doubtSeen + 8 * bitNat doubt

/-- The flag bits at axis `a`'s place in the flag word (R185). -/
def snapFlags (a : Axis) (c : Context) (doubt : Bool) : Half := BitVec.ofNat 16 (snapBits c doubt) <<< (4 * a.val)

/-- The bit of an axis kind in a subscription mask; trigger kinds have none (section 10.6, R141). -/
def NoteKind.maskBit : NoteKind → Option Nat
  | .motion => some 0
  | .still => some 1
  | .reref => some 2
  | .doubt => some 3
  | .fire | .chainMiss | .rerefDisarm => none

/-- Whether a mask names a kind. -/
def maskHas (m : BitVec 4) (k : NoteKind) : Bool :=
  match k.maskBit with
  | some i => m.getLsbD i
  | none => false

end Sys2Proof.Machine
end

