-- ==== Sys2Proof/Machine/Ops.lean ====
section
/-!
DEFINITION. The operations several blocks share: timers (R2), the entry of notifications (R112 to R114), moves of owed
entries (R119), line actions (R100, R101), the arbiter (R179) and the end of a command (R175). The block has no
exception entry: raising a flag or driving NTF is part of the operation that does it.
-/
namespace Sys2Proof.Machine

/-! ### Timers (R2) -/

/-- A timer loaded with `n` ticks. -/
def Timer.load (n : Nat) : Timer := if n = 0 then .stopped else .running n

/-- A timer over one tick: loaded with n, it falls due at the n-th tick after the load. -/
def Timer.step : Timer → Timer
  | .stopped => .stopped
  | .running n => if n ≤ 1 then .due else .running (n - 1)
  | .due => .due

/-- Ticks remaining as a read shows them: an expiry not yet taken still shows 1 (R104, LINE_READ row). -/
def Timer.remaining : Timer → Nat
  | .stopped => 0
  | .running n => n
  | .due => 1

/-! ### Output lines -/

/-- The pin of a line, by its record alone (R92); none is high impedance. -/
def LineRec.pin (r : LineRec) : Option PinLevel :=
  match r.owner with
  | some _ =>
    match r.polarity, r.state with
    | .activeHigh, .active | .activeLow, .inactive => some .high
    | .activeHigh, .inactive | .activeLow, .active => some .low
  | none =>
    match r.release with
    | .low => some .low
    | .high => some .high
    | .float => none

/-- A line after an action (R100, R101). -/
def LineRec.act (r : LineRec) : LineAction → LineRec
  | .set => { r with state := .active, timer := .stopped }
  | .clear => { r with state := .inactive, timer := .stopped }
  | .toggle =>
    { r with
      state := match r.state with
        | .active => .inactive
        | .inactive => .active
      timer := .stopped }
  | .pulse w => { r with state := .active, timer := .load w }

/-- A line given up by its owner: pulse cancelled, INACTIVE, no owner; polarity and release level are kept
(R97, R108). -/
def LineRec.giveUp (r : LineRec) : LineRec := { r with owner := none, state := .inactive, timer := .stopped }

/-- The line unit takes an action on line `l`. -/
def State.actLine (l : LineNo) (act : LineAction) (s : State) : State := s.setLine l ((s.line l).act act)

/-! ### Notification units -/

/-- NTF for a queue (R121). -/
def ntfOf (q : List Note) : PinLevel := if q.isEmpty then .high else .low

/-- Whether an owed entry is of this source and kind (R114). -/
def Owed.matchesKey (e : Owed) (r : Report) : Bool := e.report.source = r.source ∧ e.report.kind = r.kind

/-- R114: fold into the entry of the same source and kind, or append. -/
def owe (r : Report) : List Owed → List Owed
  | [] => [⟨1, r⟩]
  | e :: rest =>
    if e.matchesKey r then ⟨min (e.count + 1) Config.countCap, r⟩ :: rest
    else e :: owe r rest

/-- The unit takes a notification: discarded while intake is OFF (R109), else by the entry rule (R112). -/
def NoteUnit.take (r : Report) (u : NoteUnit) : NoteUnit :=
  if u.intake then
    if u.queue.length < Config.queueCap ∧ u.owed = [] then
      { u with queue := u.queue ++ [⟨u.nextSeq, 1, r⟩], nextSeq := u.nextSeq + 1, ntf := .low }
    else { u with owed := owe r u.owed }
  else u

/-- Whether any owed entry names slot `n` as its source (R43, R120). -/
def NoteUnit.owes (u : NoteUnit) (n : SlotNo) : Bool := u.owed.any (·.report.source = .slot n)

/-- What a move of owed entries leaves: queue, next sequence number, owed list, and the slots whose last owed entry
moved, in the order of the moves (R119, R120). -/
structure Moved where
  queue : List Note
  nextSeq : Half
  owed : List Owed
  freed : List SlotNo
  deriving DecidableEq, Repr

/-- R119: from the head of the owed list, while the queue holds fewer than 16 notes. -/
def moveOwed (q : List Note) (seq : Half) : List Owed → Moved
  | [] => ⟨q, seq, [], []⟩
  | e :: rest =>
    if q.length < Config.queueCap then
      let m := moveOwed (q ++ [⟨seq, e.count, e.report⟩]) (seq + 1) rest
      match e.report.source with
      | .slot n => if rest.any (·.report.source = .slot n) then m else { m with freed := n :: m.freed }
      | .axis _ => m
    else ⟨q, seq, e :: rest, []⟩

/-- The unit of port `p` takes a notification. -/
def State.hand (p : Port) (r : Report) (s : State) : State := s.setNote p ((s.note p).take r)

/-! ### Routing of axis notes (R16, R141) -/

/-- Whether an axis note of this kind goes to port `p`: its session is OPEN (ending included) and its mask for the
axis names the kind. -/
def State.hears (p : Port) (a : Axis) (k : NoteKind) (s : State) : Bool :=
  (s.session p).state = .opened ∧ maskHas (s.view p).masks[a] k = true

/-- Hand an axis note to port `p` if it hears it. -/
def State.handIfHeard (r : Report) (p : Port) (s : State) : State :=
  if s.hears p r.axis r.kind then s.hand p r else s

/-- Hand an axis note to every port that hears it (R141). -/
def State.route (r : Report) (s : State) : State :=
  ((s.handIfHeard r .a).handIfHeard r .b).handIfHeard r .c

/-- Hand an axis note to port `p` if it hears it and its unit takes the maker `first` first (R186). -/
def State.handInOrder (makers : Makers) (first : Maker) (r : Report) (p : Port) (s : State) : State :=
  if makers.first p = first then s.handIfHeard r p else s

/-- Hand the axis note of an event, if it makes one, to the ports that hear it and whose units take the maker `first`
first (R141, R186). -/
def State.routeIn (makers : Makers) (first : Maker) (note : Option Report) (s : State) : State :=
  match note with
  | some r => ((s.handInOrder makers first r .a).handInOrder makers first r .b).handInOrder makers first r .c
  | none => s

/-! ### The table arbiter (R179) -/

/-- The order of choice after the last served port. -/
def cycleAfter : Port → List Port
  | .a => [.b, .c, .a]
  | .b => [.c, .a, .b]
  | .c => [.a, .b, .c]

/-- If the grant is free and ports wait, it goes to the first of them in the cycle after the last served port. -/
def State.arbitrate (s : State) : State :=
  match s.grant with
  | some _ => s
  | none =>
    match (cycleAfter s.lastServed).find? (fun p => s.waiting.get p) with
    | some p => { s with grant := some p, waiting := s.waiting.set p false }
    | none => s

/-- Port `p`'s command joins the waiting set; with the grant free and nobody waiting it is granted at once. -/
def State.joinArbiter (p : Port) (s : State) : State := { s with waiting := s.waiting.set p true }.arbitrate

/-- Port `p`'s command has done its last step: a grant it holds becomes free and `p` is the last served port. -/
def State.freeGrant (p : Port) (s : State) : State :=
  if s.grant = some p then { s with grant := none, lastServed := p }.arbitrate else s

/-- Port `p`'s command is dropped (R177): it leaves the waiting set, and a grant it has not used becomes free; the
last served port does not change (log 9). -/
def State.leaveArbiter (p : Port) (s : State) : State :=
  if s.grant = some p then { s with grant := none }.arbitrate
  else { s with waiting := s.waiting.set p false }

/-! ### The end of a command (R175) -/

/-- The link unit when the command of `req` is done: READY with its response, or EMPTY under a discard mark. -/
def Link.finish (req : Request) (r : Result) (data : List Byte) (l : Link) : Link :=
  if l.discard then
    { l with slot := .empty, discard := false, heldRequest := none, heldResponse := none, flight := none }
  else { l with slot := .ready, heldResponse := some ⟨req.tag, r, data⟩, flight := none }

/-- The last step of port `p`'s command: its response, then the grant. -/
def State.complete (p : Port) (req : Request) (r : Result) (data : List Byte) (s : State) : State :=
  (s.setLink p ((s.link p).finish req r data)).freeGrant p

/-- R173, steps 2 to 4: an unknown command is answered at once, an arbiter command joins the waiting set, any other
begins to run. -/
def State.startOnWay (p : Port) (req : Request) (s : State) : State :=
  match req.command with
  | none => s.complete p req .unknown []
  | some c =>
    let s := s.setLink p { s.link p with flight := some ⟨req, .started⟩ }
    if c.atArbiter then s.joinArbiter p else s

/-! ### The first step of a command (R174) -/

/-- The request of port `p` if its command in flight is `c` and may take its first step now: it has started, and an
arbiter command holds the grant. -/
def State.runnable (c : Cmd) (p : Port) (s : State) : Option Request :=
  match (s.link p).flight with
  | some ⟨req, .started⟩ =>
    if req.command = some c ∧ (c.atArbiter = true → s.grant = some p) then some req else none
  | _ => none

/-- The common checks of R174. -/
def State.commonCheck (c : Cmd) (p : Port) (req : Request) (s : State) : Option Result :=
  if c.needsSession ∧ (s.session p).state = .closed then some .noSession
  else if req.params.length ≠ c.paramLen then some .badArg
  else none

/-- What a command's own checks and effects give: refused with a code and nothing changed, or OK with the state and
the data of the response. -/
inductive Reply where
  | refuse (r : Result)
  | ok (s : State) (data : List Byte)
  deriving DecidableEq, Repr

/-- A command that is one step (R173 to R175): common checks, own checks and effects, response. A command whose first
step is not due leaves the part as it is (log 1). -/
def State.runCommand (c : Cmd) (p : Port) (body : List Byte → State → Reply) (s : State) : State :=
  match s.runnable c p with
  | none => s
  | some req =>
    match s.commonCheck c p req with
    | some r => s.complete p req r []
    | none =>
      match body req.params s with
      | .refuse r => s.complete p req r []
      | .ok s' data => s'.complete p req .ok data

end Sys2Proof.Machine
end

