-- ==== Sys2Proof/Machine/TableOps.lean ====
section
/-!
DEFINITION. The trigger table's operations: placing and removing (R50), arming (R42, R60), giving up (R43), the fire
and its four steps (R69 to R78), the reference record (R79, R80).
-/
namespace Sys2Proof.Machine

/-! ### Arm lists (R48 to R50) -/

/-- The target of slot `n` as a signed number, the order of R49 on both kinds of axis. -/
def State.targetOf (s : State) (n : SlotNo) : Int :=
  match s.slot n with
  | some t => t.target.toInt
  | none => 0

/-- R50: behind the entries whose target is less than or equal, before the first whose target is greater. -/
def placeIn (key : SlotNo → Int) (n : SlotNo) (target : Int) (l : List SlotNo) : List SlotNo :=
  l.takeWhile (fun m => decide (key m ≤ target)) ++ n :: l.dropWhile (fun m => decide (key m ≤ target))

/-- Place slot `n` in the list of axis `a` by the target its record holds. -/
def State.place (a : Axis) (n : SlotNo) (s : State) : State :=
  s.setArmList a (placeIn s.targetOf n (s.targetOf n) (s.armList a))

/-- Take slot `n` out of the list of axis `a`; the others keep their order (R50). -/
def State.unplace (a : Axis) (n : SlotNo) (s : State) : State :=
  s.setArmList a ((s.armList a).filter (· ≠ n))

/-! ### Arming, disarming, giving up -/

/-- Fires counted from the start again, as every arming does (R42). -/
def Repeat.restart (r : Repeat) : Repeat := { r with firesLeft := r.firesTotal }

/-- The record of a slot as an arming leaves it (R42, R60). -/
def Trigger.armedAtOrigin (t : Trigger) : Trigger :=
  { t with state := .armed, target := t.origin, rep := t.rep.map Repeat.restart }

/-- An arming of slot `n`, by TRIG_ARM or by a chain (R42, R60, R75). -/
def State.arm (n : SlotNo) (t : Trigger) (s : State) : State :=
  (s.setSlot n (some t.armedAtOrigin)).place t.axis n

/-- Slot `n` leaves its list and stands in state `st` at its origin (R42); fires_left stays. -/
def State.unarm (n : SlotNo) (t : Trigger) (st : SlotState) (s : State) : State :=
  (s.unplace t.axis n).setSlot n (some { t with state := st, target := t.origin })

/-- Whether origin and pitch suit the modulus in force (R59, R75): always on a linear axis. -/
def Trigger.fits (t : Trigger) (modulus : Nat) : Bool :=
  let pitchFits : Bool := match t.rep with
    | some r => r.pitch.toInt.natAbs < modulus
    | none => true
  modulus = 0 ∨ (0 ≤ t.origin.toInt ∧ t.origin.toInt < modulus ∧ pitchFits = true)

/-- Slot `n` of port `p` becomes FREE and the held count falls by 1 (R43, R44). -/
def State.freeSlot (p : Port) (n : SlotNo) (s : State) : State :=
  (s.setSlot n none).setHeld p (s.heldBy p - 1)

/-- R43: a slot given up, already out of its list and at its origin, is FREE unless an owed entry of its owner names
it; then it is RETIRING. -/
def State.settleGiveUp (n : SlotNo) (t : Trigger) (s : State) : State :=
  if (s.note t.owner).owes n then s.setSlot n (some { t with state := .retiring, target := t.origin })
  else s.freeSlot t.owner n

/-- R44: the message that the last owed entry of slot `n` has moved. -/
def State.lastOwedMoved (n : SlotNo) (s : State) : State :=
  match s.slot n with
  | some t => if t.state = .retiring then s.freeSlot t.owner n else s
  | none => s

/-! ### Matching (R67, R68) -/

/-- Whether a slot waiting in direction `d` is matched by an arrival. -/
def SlotDir.matchedBy : SlotDir → CountDir → Bool
  | .up, .up | .down, .down | .either, _ => true
  | .up, .down | .down, .up => false

/-- Whether slot `n` is waiting for this arrival. -/
def State.waitsFor (r : Arrival) (s : State) (n : SlotNo) : Bool :=
  match s.slot n with
  | some t => t.target = r.position ∧ t.dir.matchedBy r.dir = true
  | none => false

/-- The matched set, in list order (R67, R68). -/
def State.matchedSet (r : Arrival) (s : State) : List SlotNo := (s.armList r.axis).filter (s.waitsFor r)

/-! ### One fire (R69) -/

/-- The FIRE notification (R71). -/
def Trigger.fireReport (n : SlotNo) (t : Trigger) (r : Arrival) : Report :=
  ⟨.fire, .slot n, some t.tag, t.axis, r.position, r.tick, r.epoch, .none⟩

/-- The CHAIN_MISS notification (R76). -/
def Trigger.missReport (n : SlotNo) (t : Trigger) (r : Arrival) (m : SlotNo) : Report :=
  ⟨.chainMiss, .slot n, some t.tag, t.axis, r.position, r.tick, r.epoch, .successor m⟩

/-- Step 1: the line action (R70). -/
def State.fireLine (t : Trigger) (s : State) : State :=
  match t.job with
  | some j => s.actLine j.line j.act
  | none => s

/-- Step 2: the report (R71). -/
def State.fireNote (n : SlotNo) (t : Trigger) (r : Arrival) (s : State) : State :=
  if t.notify then s.hand t.owner (t.fireReport n r) else s

/-- Target plus pitch, wrapped into the range of the axis (R73). -/
def nextTarget (modulus : Nat) (target pitch : Word) : Word :=
  if modulus = 0 then target + pitch
  else
    let sum := target.toInt + pitch.toInt
    BitVec.ofInt 32 (if (modulus : Int) ≤ sum then sum - modulus else if sum < 0 then sum + modulus else sum)

/-- What the count of fires decides (R72): the slot repeats with this many fires left, or it finishes, and then with
this repeat field. -/
inductive FireCount where
  | repeats (pitch : Word) (rep : Repeat)
  | finishes (rep : Option Repeat)
  deriving DecidableEq, Repr

/-- R72. An ARMED slot with fires_total above 0 has fires left (R42), so the last row is also met by 0. -/
def Trigger.countFire (t : Trigger) : FireCount :=
  match t.rep with
  | none => .finishes none
  | some r =>
    if r.firesTotal = 0 then .repeats r.pitch r
    else if r.firesLeft ≤ 1 then .finishes (some { r with firesLeft := 0 })
    else .repeats r.pitch { r with firesLeft := r.firesLeft - 1 }

/-- Step 3: repeat or finish (R72 to R74). A slot that finishes with retain no stands RETIRING, out of every list,
until the close of the fire. -/
def State.fireOwn (n : SlotNo) (t : Trigger) (s : State) : State :=
  match t.countFire with
  | .repeats pitch rep =>
    ((s.unplace t.axis n).setSlot n
      (some { t with target := nextTarget (s.axis t.axis).config.modulus t.target pitch, rep := some rep })).place t.axis n
  | .finishes rep => s.unarm n { t with rep := rep } (if t.retain then .staged else .retiring)

/-- Whether step 4 may arm slot `m` for owner `p` (R75). -/
def State.chainable (p : Port) (m : SlotNo) (s : State) : Option Trigger :=
  match s.slot m with
  | some t => if t.state = .staged ∧ t.owner = p ∧ t.fits (s.axis t.axis).config.modulus then some t else none
  | none => none

/-- Step 4: the successor (R75, R76). -/
def State.fireChain (n : SlotNo) (t : Trigger) (r : Arrival) (s : State) : State :=
  match t.successor with
  | none => s
  | some m =>
    match s.chainable t.owner m with
    | some u => s.arm m u
    | none => s.hand t.owner (t.missReport n r m)

/-- The close of a fire (R74): a slot that finished with retain no is given up. -/
def State.fireClose (n : SlotNo) (s : State) : State :=
  match s.slot n with
  | some t => if t.state = .retiring then s.settleGiveUp n t else s
  | none => s

/-- One fire of slot `n` (R69). Only an ARMED slot can fire (R41, R45). -/
def State.fire (r : Arrival) (s : State) (n : SlotNo) : State :=
  match s.slot n with
  | some t =>
    if t.state = .armed then
      ((((s.fireLine t).fireNote n t r).fireOwn n t).fireChain n t r).fireClose n
    else s
  | none => s

/-- The table takes a count arrival: the matched set is fixed, then its slots fire in list order (R67, R68). -/
def State.takeArrival (r : Arrival) (s : State) : State := (s.matchedSet r).foldl (State.fire r) s

/-! ### The reference record (R79, R80) -/

/-- The REREF_DISARM notification (R80). -/
def Trigger.disarmReport (n : SlotNo) (t : Trigger) (r : Reference) : Report :=
  ⟨.rerefDisarm, .slot n, some t.tag, t.axis, r.newPosition, r.tick, r.epoch, .none⟩

/-- A reference record meets slot `n` of the list: an ARMED DROP slot goes to STAGED and reports (R79). -/
def State.dropOne (r : Reference) (s : State) (n : SlotNo) : State :=
  match s.slot n with
  | some t =>
    if t.state = .armed ∧ t.bind = .drop then (s.unarm n t .staged).hand t.owner (t.disarmReport n r) else s
  | none => s

/-- The table takes a reference record (R52, R79). -/
def State.takeReferenceRecord (r : Reference) (s : State) : State :=
  (s.armList r.axis).foldl (State.dropOne r) (s.setEpochOf r.axis r.epoch)

/-- The table takes a record. -/
def State.takeRecord (s : State) : AxisRecord → State
  | .arrival r => s.takeArrival r
  | .reference r => s.takeReferenceRecord r

/-- The table takes every record axis `a` has handed on, oldest first (R31, R51). -/
def State.drain (a : Axis) (s : State) : State := (s.inbox a).foldl State.takeRecord (s.setInbox a [])

end Sys2Proof.Machine
end

