-- ==== Sys2Proof/Machine/AxisOps.lean ====
section
/-!
DEFINITION. The axis unit's operations: filters (R3, R4), decoding (R6 to R8), the count (R9 to R11), phase skips (R12),
the motion monitor (R13, R14), references (R27, R30 to R32).
-/
namespace Sys2Proof.Machine

/-! ### Filters (R3, R4) -/

/-- A filter over one sample of its pin: run length 0 or one more; while unsettled, the streak of the level shown. -/
def Filter.sample (pin : Bool) (f : Filter) : Filter :=
  match f.level with
  | some l => { f with run := if pin = l then 0 else f.run + 1, settledNow := false }
  | none =>
    { f with candidate := pin, streak := if pin = f.candidate then f.streak + 1 else 1, settledNow := false }

/-- The run length has reached F: an accepted change is to be taken at this sample (R3). -/
def Filter.changeDue (F : Nat) (f : Filter) : Bool := f.level.isSome ∧ F ≤ f.run

/-- One level has shown for F consecutive samples: the input settles at this sample (R4). -/
def Filter.settleDue (F : Nat) (f : Filter) : Bool := f.level = none ∧ F ≤ f.streak

/-- The accepted change: the filtered state takes the new level, the run length returns to 0 (R3). -/
def Filter.accept (f : Filter) : Filter := { f with level := f.level.map not, run := 0 }

/-- The input settles (R4). -/
def Filter.settle (f : Filter) : Filter := { f with level := some f.candidate, run := 0, streak := 0, settledNow := true }

/-- A change of F: the run length, or the count of an unsettled input, starts again (R3, R4). -/
def Filter.restart (f : Filter) : Filter := { f with run := 0, streak := 0 }

/-- The accepted change taken if it is due. -/
def Filter.acceptIfDue (F : Nat) (f : Filter) : Filter := if f.changeDue F then f.accept else f

/-- The filter of an input. -/
def Inputs.get (x : Inputs) : Input → Filter
  | .pha => x.pha
  | .phb => x.phb
  | .idx => x.idx
  | .home => x.home

/-- Change the filter of an input. -/
def Inputs.set (x : Inputs) : Input → Filter → Inputs
  | .pha, f => { x with pha := f }
  | .phb, f => { x with phb := f }
  | .idx, f => { x with idx := f }
  | .home, f => { x with home := f }

/-- The same change to all four filters. -/
def Inputs.map (g : Filter → Filter) (x : Inputs) : Inputs := ⟨g x.pha, g x.phb, g x.idx, g x.home⟩

/-- All four filters over one sample. -/
def Inputs.sample (pins : AxisPins) (x : Inputs) : Inputs :=
  ⟨x.pha.sample pins.pha, x.phb.sample pins.phb, x.idx.sample pins.idx, x.home.sample pins.home⟩

/-- Whether a filter has an accepted change or a settling of this sample still to be taken. -/
def Filter.outstanding (F : Nat) (f : Filter) : Bool := f.changeDue F || f.settleDue F

/-- Whether an axis has one. -/
def AxisUnit.outstanding (u : AxisUnit) : Bool :=
  let F := u.config.filterLen
  u.inputs.pha.outstanding F || u.inputs.phb.outstanding F || u.inputs.idx.outstanding F || u.inputs.home.outstanding F

/-! ### Decoding (R6 to R8) -/

/-- What one decoder step makes. -/
inductive Decoded where
  | nothing
  | count (dir : CountDir)
  | phaseSkip
  deriving DecidableEq, Repr

/-- The other direction if reverse is on (R6, R8). -/
def CountDir.reversed (reverse : Bool) : CountDir → CountDir
  | .up => if reverse then .down else .up
  | .down => if reverse then .up else .down

/-- R6: the direction of a single-phase change, from the pair before it. In the up sequence 00, 10, 11, 01 a change of
PHA is up when the levels were equal, a change of PHB when they differed. -/
def quadDir (a b aChanges : Bool) : CountDir := if (a == b) == aChanges then .up else .down

/-- One decoder step: levels before, which phases changed, mode and reverse (R6, R7, R8). -/
def decodePhases (mode : DecodeMode) (reverse : Bool) (a b aChanges bChanges : Bool) : Decoded :=
  match mode with
  | .quadX4 =>
    match aChanges, bChanges with
    | true, true => .phaseSkip
    | false, false => .nothing
    | true, false => .count ((quadDir a b true).reversed reverse)
    | false, true => .count ((quadDir a b false).reversed reverse)
  | .stepDir =>
    if aChanges ∧ a = false then
      .count (CountDir.reversed reverse (if Bool.xor b bChanges then .down else .up))
    else .nothing

/-- The decoder on an axis's phase filters: nothing until both phases have settled, nor at the sample at which one of
them settles (R4). -/
def Inputs.decode (cfg : AxisConfig) (x : Inputs) : Decoded :=
  match x.pha.level, x.phb.level with
  | some a, some b =>
    if x.pha.settledNow ∨ x.phb.settledNow then .nothing
    else decodePhases cfg.mode cfg.reverse a b (x.pha.changeDue cfg.filterLen) (x.phb.changeDue cfg.filterLen)
  | _, _ => .nothing

/-! ### The count (R9 to R11, R132) -/

/-- Position and revolution count after a count arrival (R9, R10). -/
def countMove (modulus : Nat) (dir : CountDir) (position : Word) (revolution : Half) : Word × Half :=
  match dir with
  | .up =>
    if modulus = 0 then (position + 1, revolution)
    else if position.toInt = modulus - 1 then (0, revolution + 1)
    else (position + 1, revolution)
  | .down =>
    if modulus = 0 then (position - 1, revolution)
    else if position = 0 then (BitVec.ofNat 32 (modulus - 1), revolution - 1)
    else (position - 1, revolution)

/-- A context takes a count (R132). -/
def Context.add (dir : CountDir) (c : Context) : Context :=
  match dir with
  | .up => if c.delta < Config.deltaLimit then { c with delta := c.delta + 1 } else { c with sat := true }
  | .down => if -Config.deltaLimit < c.delta then { c with delta := c.delta - 1 } else { c with sat := true }

/-- Change the context of axis `a` in all three views. -/
def State.forContexts (a : Axis) (g : Context → Context) (s : State) : State :=
  let one (v : View) : View := { v with contexts := v.contexts.set a (g v.contexts[a]) }
  { s with views := ⟨one s.views.a, one s.views.b, one s.views.c⟩ }

/-- An axis note without tag and extra, at the axis as it stands (R16). -/
def State.axisReport (a : Axis) (k : NoteKind) (s : State) : Report :=
  ⟨k, .axis a, none, a, (s.axis a).position, s.tick, (s.axis a).epoch, .none⟩

/-- The axis's records wait for the table one more record (R11, R31). -/
def State.handToTable (a : Axis) (r : AxisRecord) (s : State) : State := s.setInbox a (s.inbox a ++ [r])

/-- The motion monitor takes a count arrival (R13). -/
def AxisUnit.monitorCount (u : AxisUnit) : AxisUnit :=
  let loaded := Timer.load (u.config.stallLimit * Config.ticksPerMs)
  match u.motion with
  | .off => u
  | .still => { u with motion := .moving, stallTimer := loaded }
  | .moving => { u with stallTimer := loaded }

/-- The note the motion monitor makes at a count arrival: MOTION in STILL, otherwise none (R13, R16). -/
def State.motionNote (a : Axis) (s : State) : Option Report :=
  if (s.axis a).motion = .still then some (s.axisReport a .motion) else none

/-- The notifications of one count arrival or one reference of axis `a`, each port's unit in its own order (R186,
log 5): the axis note to the units that hear the axis first, then the table takes the axis's records, then the note to
the units that hear the table first. The records wait for the table's own step if no unit hears it first, unless the
table has to take them `now` (R51). -/
def State.shareEvent (a : Axis) (makers : Makers) (now : Bool) (note : Option Report) (s : State) : State :=
  let early := s.routeIn makers .axis note
  if now = true ∨ makers ≠ .axisFirst then (early.drain a).routeIn makers .table note else early

/-- A count arrival, up to the motion monitor: position, deltas, and the record for the table (R11, R132). -/
def State.countMoved (a : Axis) (dir : CountDir) (s : State) : State :=
  let u := s.axis a
  let moved := countMove u.config.modulus dir u.position u.revolution
  let s := s.setAxis a { u with position := moved.1, revolution := moved.2 }
  (s.forContexts a (Context.add dir)).handToTable a (.arrival ⟨a, dir, moved.1, u.epoch, s.tick⟩)

/-- A count arrival (R11). Its record waits for MATCH_COUNT_ARRIVAL unless some port's unit hears the table first. -/
def State.countArrival (a : Axis) (dir : CountDir) (makers : Makers) (s : State) : State :=
  let s := s.countMoved a dir
  (s.setAxis a (s.axis a).monitorCount).shareEvent a makers false (s.motionNote a)

/-- A phase skip (R7, R12, R134). -/
def State.phaseSkip (a : Axis) (s : State) : State :=
  let u := s.axis a
  if u.doubt then s
  else
    ((s.setAxis a { u with doubt := true }).forContexts a (fun c => { c with doubtSeen := true })).route
      (s.axisReport a .doubt)

/-! ### References (R27, R30 to R32) -/

/-- The step of a reference in the axis unit, and its record handed on (R30, R31, R133). -/
def State.referenceMoved (a : Axis) (reason : Reason) (newPosition : Word) (s : State) : State :=
  let u := s.axis a
  let s := s.setAxis a
    { u with position := newPosition, revolution := 0, epoch := u.epoch + 1, doubt := false }
  (s.forContexts a (fun c => { c with rerefSince := true })).handToTable a
    (.reference ⟨a, reason, u.position, newPosition, u.epoch + 1, s.tick⟩)

/-- The REREF note (R32). -/
def State.rerefReport (a : Axis) (reason : Reason) (newPosition : Word) (s : State) : Report :=
  ⟨.reref, .axis a, none, a, newPosition, s.tick, (s.axis a).epoch + 1, .reref (s.axis a).position reason⟩

/-- A reference by an edge: its record waits for REFERENCE_RECORD unless some port's unit hears the table first (R31,
R186). -/
def State.edgeReference (a : Axis) (reason : Reason) (newPosition : Word) (makers : Makers) (s : State) : State :=
  (s.referenceMoved a reason newPosition).shareEvent a makers false (some (s.rerefReport a reason newPosition))

/-- A reference by a command: the table takes it, and what the axis handed on before it, within the command's step
(R51). -/
def State.commandReference (a : Axis) (reason : Reason) (newPosition : Word) (makers : Makers) (s : State) : State :=
  (s.referenceMoved a reason newPosition).shareEvent a makers true (some (s.rerefReport a reason newPosition))

/-- Whether an accepted change of a filter is an edge of the selected direction (R26). -/
def Filter.edgeDue (F : Nat) (sel : Edge) (f : Filter) : Bool :=
  f.changeDue F ∧ f.level = some (match sel with
    | .rising => false
    | .falling => true)

/-- What the reference unit does with the edges of one sample. -/
inductive RefAction where
  | nothing
  | toWaitIndex
  | take (reason : Reason) (next : RefState)
  deriving DecidableEq, Repr

/-- R26, R27: no state watches both inputs, and with then-index the index edge of the same sample does not complete
the reference. -/
def RefState.onEdges (home index : Bool) : RefState → RefAction
  | .idle => .nothing
  | .waitHome false => if home then .take .home .idle else .nothing
  | .waitHome true => if home then .toWaitIndex else .nothing
  | .waitIndex => if index then .take .index .idle else .nothing
  | .everyIndex => if index then .take .index .everyIndex else .nothing

/-- The accepted phase changes of this sample, as one decoder step (R3, R5 to R8). -/
def State.acceptPhases (a : Axis) (makers : Makers) (s : State) : State :=
  let u := s.axis a
  let F := u.config.filterLen
  let x := { u.inputs with pha := u.inputs.pha.acceptIfDue F, phb := u.inputs.phb.acceptIfDue F }
  let s := s.setAxis a { u with inputs := x }
  match u.inputs.decode u.config with
  | .nothing => s
  | .count dir => s.countArrival a dir makers
  | .phaseSkip => s.phaseSkip a

/-- The accepted changes of the reference inputs of this sample, as one step (R3, R26, R27). -/
def State.acceptReferences (a : Axis) (makers : Makers) (s : State) : State :=
  let u := s.axis a
  let F := u.config.filterLen
  let x := { u.inputs with idx := u.inputs.idx.acceptIfDue F, home := u.inputs.home.acceptIfDue F }
  match u.refState.onEdges (u.inputs.home.edgeDue F u.config.homeEdge) (u.inputs.idx.edgeDue F u.config.indexEdge) with
  | .nothing => s.setAxis a { u with inputs := x }
  | .toWaitIndex => s.setAxis a { u with inputs := x, refState := .waitIndex }
  | .take reason next =>
    (s.setAxis a { u with inputs := x, refState := next }).edgeReference a reason u.config.preset makers

/-- Whether one of the inputs of a pair has an accepted change to be taken. -/
def AxisUnit.pairDue (u : AxisUnit) : InputPair → Bool
  | .phases => u.inputs.pha.changeDue u.config.filterLen || u.inputs.phb.changeDue u.config.filterLen
  | .references => u.inputs.idx.changeDue u.config.filterLen || u.inputs.home.changeDue u.config.filterLen

/-! ### AXIS_SET (R14, R19) -/

/-- The motion monitor at a change of the stall limit (R14). -/
def AxisUnit.changeStall (newLimit : Nat) (u : AxisUnit) : AxisUnit :=
  if newLimit = u.config.stallLimit then u
  else if newLimit = 0 then { u with motion := .off, stallTimer := .stopped }
  else
    match u.motion with
    | .off => { u with motion := .still, stallTimer := .stopped }
    | .still => u
    | .moving => { u with stallTimer := .load (newLimit * Config.ticksPerMs) }

/-- An axis with a new configuration, but for the reference a modulus change takes (R19). -/
def AxisUnit.configure (cfg : AxisConfig) (u : AxisUnit) : AxisUnit :=
  let inputs := if cfg.filterLen = u.config.filterLen then u.inputs else u.inputs.map Filter.restart
  { u.changeStall cfg.stallLimit with config := cfg, inputs := inputs }

/-- An accepted AXIS_SET (R19, R37). The list is empty at a modulus change, so the table reports nothing and the order
of makers does not show. -/
def State.configureAxis (a : Axis) (cfg : AxisConfig) (s : State) : State :=
  let changed := cfg.modulus ≠ (s.axis a).config.modulus
  let s := s.setAxis a ((s.axis a).configure cfg)
  if changed then s.commandReference a .config 0 .axisFirst else s

end Sys2Proof.Machine
end

