-- ==== Sys2Proof/Machine/TimeBase.lean ====
section
/-!
DEFINITION. Reset and the time base: DEVICE_RESET, RESET_RELEASE, TICK (R1, R2, R146).
-/
namespace Sys2Proof.Machine

/-- The answer of a command. -/
abbrev Answer := Host.Outcome State Fault Refusal

/-- The axes in order. -/
def allAxes : List Axis := [0, 1, 2, 3]

/-- The lines in order. -/
def allLines : List LineNo := [0, 1, 2, 3, 4, 5, 6, 7]

/-- The ports in order. -/
def allPorts : List Port := [.a, .b, .c]

/-- The slots in order. -/
def allSlots : List SlotNo := List.finRange 96

/-- The cause a source gives when it alone is in force (R146). -/
def causeOf : ResetSource → ResetCause
  | .powerOn => .powerOn
  | .pin => .pin
  | .supplyLow => .supplyLow

/-- The cause when a further source comes into force during the same reset (R146). -/
def ResetCause.joined : ResetCause → ResetSource → ResetCause
  | .powerOn, _ => .powerOn
  | _, .powerOn => .powerOn
  | .supplyLow, _ => .supplyLow
  | _, .supplyLow => .supplyLow
  | .pin, .pin => .pin

/-- A link unit under reset: its select line is an input and stays where it is (R165, R178). -/
def Link.resetKeepingSelect (l : Link) : Link := { Link.reset with selectLow := l.selectLow }

/-- DEVICE_RESET (R146): every block to its reset values (R1, R23, R25, R65, R93, R126, R131, R140, R145, R164, R179),
the cause recorded, the reset in force. -/
def execDeviceReset (source : ResetSource) (s : State) : Answer :=
  .next { State.reset with
    pending := s.pending
    inReset := true
    resetCause := if s.inReset then s.resetCause.joined source else causeOf source
    pins := s.pins
    links := ⟨s.links.a.resetKeepingSelect, s.links.b.resetKeepingSelect, s.links.c.resetKeepingSelect⟩ }

/-- RESET_RELEASE (R1): the last source goes away. -/
def execResetRelease (s : State) : Answer := .next { s with inReset := false }

/-- Whether port `p` has a command that has begun to run and is not done: a SNAP or a CLOSE (R173, R177). -/
def State.running (p : Port) (s : State) : Bool :=
  match (s.link p).flight with
  | some ⟨_, .snapping _⟩ | some ⟨_, .closing⟩ => true
  | _ => false

/-- Whether port `p`'s keepalive expiry can be taken: not while its command runs (R177). -/
def State.keepaliveDue (p : Port) (s : State) : Bool := (s.session p).timer = .due ∧ s.running p = false

/-- Whether an expiry of this tick is still to be taken (log 7). -/
def State.expiryOutstanding (s : State) : Bool :=
  allAxes.any (fun a => (s.axis a).stallTimer = .due) || allLines.any (fun l => (s.line l).timer = .due)
    || allPorts.any (fun p => s.keepaliveDue p)

/-- Whether TICK is due: out of reset, the 16th period has come (log 6), and no expiry of the last tick is left. -/
def State.tickDue (s : State) : Bool :=
  s.inReset = false ∧ Config.periodsPerTick ≤ s.periods ∧ s.expiryOutstanding = false

/-- One tick: the counter, and every timer that runs (R1, R2). -/
def State.advanceTick (s : State) : State :=
  let one (r : Session) : Session := { r with timer := r.timer.step }
  { s with
    tick := s.tick + 1
    periods := s.periods - Config.periodsPerTick
    axes := Vector.ofFn (fun a : Axis => { s.axis a with stallTimer := (s.axis a).stallTimer.step })
    lines := Vector.ofFn (fun l : LineNo => { s.line l with timer := (s.line l).timer.step })
    sessions := ⟨one s.sessions.a, one s.sessions.b, one s.sessions.c⟩ }

/-- TICK (R1). -/
def execTick (s : State) : Answer := .next (if s.tickDue then s.advanceTick else s)

end Sys2Proof.Machine
end

