-- ==== Sys2Proof/Machine/Axes.lean ====
section
/-!
DEFINITION. The axis units' commands: SAMPLE, INPUT_SETTLING, ACCEPTED_CHANGE, STALL_TIMER_EXPIRY and the axis commands
of chapters 1 and 2.
-/
namespace Sys2Proof.Machine

/-- Whether SAMPLE is due: out of reset, the tick of the last period not overdue (log 6), and every accepted change
and settling of the last sample taken (log 7). -/
def State.sampleDue (s : State) : Bool :=
  s.inReset = false ∧ s.periods ≤ Config.periodsPerTick ∧ allAxes.any (fun a => (s.axis a).outstanding) = false

/-- One sample: every filter meets its pin (R3, R4). -/
def State.takeSample (pins : Vector AxisPins 4) (s : State) : State :=
  { s with
    periods := s.periods + 1
    pins := pins
    axes := Vector.ofFn (fun a : Axis => { s.axis a with inputs := (s.axis a).inputs.sample pins[a] }) }

/-- SAMPLE (R3, R4). -/
def execSample (pins : Vector AxisPins 4) (s : State) : Answer :=
  .next (if s.sampleDue then s.takeSample pins else s)

/-- INPUT_SETTLING (R4): no count, no edge. -/
def execInputSettling (a : Axis) (i : Input) (s : State) : Answer :=
  let u := s.axis a
  let f := u.inputs.get i
  .next (if f.settleDue u.config.filterLen then s.setAxis a { u with inputs := u.inputs.set i f.settle } else s)

/-- ACCEPTED_CHANGE (R3, R5). -/
def execAcceptedChange (a : Axis) (inputs : InputPair) (makers : Makers) (s : State) : Answer :=
  .next (
    if (s.axis a).pairDue inputs then
      match inputs with
      | .phases => s.acceptPhases a makers
      | .references => s.acceptReferences a makers
    else s)

/-- STALL_TIMER_EXPIRY (R13). -/
def execStallTimerExpiry (a : Axis) (s : State) : Answer :=
  let u := s.axis a
  .next (
    if u.stallTimer = .due then
      (s.setAxis a { u with motion := .still, stallTimer := .stopped }).route (s.axisReport a .still)
    else s)

/-- The axis number check, then for a command that changes the axis the ownership check (R17). -/
def State.withAxis (p : Port) (n : Nat) (changes : Bool) (s : State) (k : Axis → Reply) : Reply :=
  match below 4 n with
  | none => .refuse .range
  | some a => if changes ∧ s.axisRight a ≠ some p then .refuse .notClaimed else k a

/-- The configuration AXIS_SET carries, if every code has a meaning (R18, check 1; section 10.7). -/
def configOf (ps : List Byte) : Option AxisConfig :=
  match DecodeMode.ofCode (paramNat ps 1), yesNoOf (paramNat ps 2), Edge.ofCode (paramNat ps 14),
    Edge.ofCode (paramNat ps 15) with
  | some mode, some reverse, some indexEdge, some homeEdge =>
    some { mode := mode, reverse := reverse, filterLen := paramNat ps 3, modulus := (paramWord ps 4).toNat,
           stallLimit := (paramHalf ps 8).toNat, preset := paramWord ps 10, indexEdge := indexEdge,
           homeEdge := homeEdge }
  | _, _, _, _ => none

/-- Whether a position lies in the range of an axis of this modulus. -/
def inRange (modulus : Nat) (v : Word) : Bool := modulus = 0 ∨ (0 ≤ v.toInt ∧ v.toInt < modulus)

/-- The range check of R18. -/
def AxisConfig.inRange (c : AxisConfig) : Bool :=
  1 ≤ c.filterLen ∧ c.filterLen ≤ Config.maxFilterLen ∧ c.modulus ≠ 1 ∧ c.modulus ≤ Config.maxModulus
    ∧ Machine.inRange c.modulus c.preset = true

/-- Whether a configuration changes mode, reverse or modulus (R18, check 3). -/
def AxisConfig.recountsFrom (new old : AxisConfig) : Bool :=
  new.mode ≠ old.mode ∨ new.reverse ≠ old.reverse ∨ new.modulus ≠ old.modulus

/-- AXIS_SET's own checks and effect (R18, R19). -/
def axisSetBody (p : Port) (ps : List Byte) (s : State) : Reply :=
  s.withAxis p (paramNat ps 0) true fun a =>
    match configOf ps with
    | none => .refuse .badArg
    | some cfg =>
      if cfg.inRange = false then .refuse .range
      else if cfg.recountsFrom (s.axis a).config ∧ s.armList a ≠ [] then .refuse .inUse
      else .ok (s.configureAxis a cfg) []

/-- AXIS_SET (R18). -/
def execAxisSet (p : Port) (s : State) : Answer := .next (s.runCommand .axisSet p (axisSetBody p))

/-- AXIS_CLEAR_DOUBT's effect (R21). -/
def axisClearDoubtBody (p : Port) (ps : List Byte) (s : State) : Reply :=
  s.withAxis p (paramNat ps 0) true fun a => .ok (s.setAxis a { s.axis a with doubt := false }) []

/-- AXIS_CLEAR_DOUBT (R21). -/
def execAxisClearDoubt (p : Port) (s : State) : Answer :=
  .next (s.runCommand .axisClearDoubt p (axisClearDoubtBody p))

/-- The response of AXIS_READ (R22, section 10.7). -/
def AxisUnit.record (u : AxisUnit) (owner : Option Port) : List Byte :=
  [u.config.mode.code, yesNo u.config.reverse, byteOf u.config.filterLen] ++ le32 (BitVec.ofNat 32 u.config.modulus)
    ++ le16 (BitVec.ofNat 16 u.config.stallLimit) ++ le32 u.config.preset
    ++ [u.config.indexEdge.code, u.config.homeEdge.code] ++ le32 u.position ++ le16 u.revolution ++ le16 u.epoch
    ++ [u.motion.code, yesNo u.doubt, u.refState.code, yesNo u.refState.thenIndex, portCode owner]

/-- AXIS_READ's response; it changes nothing (R22). -/
def axisReadBody (p : Port) (ps : List Byte) (s : State) : Reply :=
  s.withAxis p (paramNat ps 0) false fun a => .ok s ((s.axis a).record (s.axisRight a))

/-- AXIS_READ (R22). -/
def execAxisRead (p : Port) (s : State) : Answer := .next (s.runCommand .axisRead p (axisReadBody p))

/-- AXIS_REFARM's own check and effect (R28). -/
def axisRefarmBody (p : Port) (ps : List Byte) (s : State) : Reply :=
  s.withAxis p (paramNat ps 0) true fun a =>
    match RefState.ofArmingKind (paramNat ps 1) with
    | none => .refuse .badArg
    | some r => .ok (s.setAxis a { s.axis a with refState := r }) []

/-- AXIS_REFARM (R28). -/
def execAxisRefarm (p : Port) (s : State) : Answer := .next (s.runCommand .axisRefarm p (axisRefarmBody p))

/-- AXIS_PRESET's own check and effect (R29). -/
def axisPresetBody (p : Port) (makers : Makers) (ps : List Byte) (s : State) : Reply :=
  s.withAxis p (paramNat ps 0) true fun a =>
    let u := s.axis a
    let v := paramWord ps 1
    if inRange u.config.modulus v = false then .refuse .range
    else .ok (s.commandReference a .preset v makers) (le32 u.position ++ le16 (u.epoch + 1))

/-- AXIS_PRESET (R29). -/
def execAxisPreset (p : Port) (makers : Makers) (s : State) : Answer :=
  .next (s.runCommand .axisPreset p (axisPresetBody p makers))

end Sys2Proof.Machine
end

