-- ==== Sys2Proof/Machine/Triggers.lean ====
section
/-!
DEFINITION. The trigger table's commands: MATCH_COUNT_ARRIVAL, REFERENCE_RECORD and the six trigger commands of
chapter 3.
-/
namespace Sys2Proof.Machine

/-- MATCH_COUNT_ARRIVAL (R67): the oldest record of the axis, if it is an arrival. -/
def execMatchCountArrival (a : Axis) (s : State) : Answer :=
  match s.inbox a with
  | .arrival r :: rest => .next ((s.setInbox a rest).takeArrival r)
  | _ => .next s

/-- REFERENCE_RECORD (R79): the oldest record of the axis, if it is a reference. -/
def execReferenceRecord (a : Axis) (s : State) : Answer :=
  match s.inbox a with
  | .reference r :: rest => .next ((s.setInbox a rest).takeReferenceRecord r)
  | _ => .next s

/-- What TRIG_DEFINE describes, before the range checks (R54): axis, line and successor are still numbers. -/
structure Description where
  axis : Nat
  tag : Half
  origin : Word
  dir : SlotDir
  job : Option (Nat × LineAction)
  rep : Option Repeat
  successor : Option Nat
  retain : Bool
  bind : Bind
  notify : Bool
  deriving DecidableEq, Repr

/-- A field whose marker for absent is 0xFF (R183). -/
def unlessMarker (n : Nat) : Option Nat := if n = 0xFF then none else some n

/-- Action, line and width, if they agree (R55): with NONE neither line nor width, otherwise a line and the width the
action asks for. -/
def jobOf (code : Nat) (line : Option Nat) (width : Nat) : Option (Option (Nat × LineAction)) :=
  if code = 0 then if line = none ∧ width = 0 then some none else none
  else
    match LineAction.ofCode code width, line with
    | some act, some l => some (some (l, act))
    | _, _ => none

/-- Pitch and fires_total, if they agree with each other and with the direction (R55). -/
def repeatOf (dir : SlotDir) (pitch : Word) (firesTotal : Nat) : Option (Option Repeat) :=
  if pitch = 0 then if firesTotal = 0 then some none else none
  else
    match dir with
    | .either => none
    | .up => if 0 < pitch.toInt then some (some ⟨pitch, firesTotal, firesTotal⟩) else none
    | .down => if pitch.toInt < 0 then some (some ⟨pitch, firesTotal, firesTotal⟩) else none

/-- The description TRIG_DEFINE carries, unless R55 refuses it (section 10.7, R183). -/
def descriptionOf (ps : List Byte) : Option Description :=
  match SlotDir.ofCode (paramNat ps 7), yesNoOf (paramNat ps 19), Bind.ofCode (paramNat ps 20),
    yesNoOf (paramNat ps 21) with
  | some dir, some retain, some bind, some notify =>
    match jobOf (paramNat ps 8) (unlessMarker (paramNat ps 9)) (paramHalf ps 10).toNat,
      repeatOf dir (paramWord ps 12) (paramHalf ps 16).toNat with
    | some job, some rep =>
      some { axis := paramNat ps 0, tag := paramHalf ps 1, origin := paramWord ps 3, dir := dir, job := job, rep := rep,
             successor := unlessMarker (paramNat ps 18), retain := retain, bind := bind, notify := notify }
    | _, _ => none
  | _, _, _, _ => none

/-- The line of an action, if it is in range (R56). -/
def jobInRange : Option (Nat × LineAction) → Option (Option LineJob)
  | none => some none
  | some (l, act) => (below 8 l).map fun l => some ⟨l, act⟩

/-- The successor, if it is in range (R56). -/
def successorInRange : Option Nat → Option (Option SlotNo)
  | none => some none
  | some n => (below 96 n).map some

/-- The STAGED slot a description gives port `p`, unless R56 refuses it. -/
def Description.toTrigger (d : Description) (p : Port) (s : State) : Option Trigger :=
  match below 4 d.axis, jobInRange d.job, successorInRange d.successor with
  | some a, some job, some successor =>
    let t : Trigger :=
      { state := .staged, owner := p, tag := d.tag, axis := a, origin := d.origin, target := d.origin, dir := d.dir,
        job := job, rep := d.rep, successor := successor, retain := d.retain, bind := d.bind, notify := d.notify }
    if t.fits (s.axis a).config.modulus then some t else none
  | _, _, _ => none

/-- Whether a trigger's line, if it has one, is owned by its owner (R57). -/
def State.lineClaimed (t : Trigger) (s : State) : Bool :=
  match t.job with
  | some j => (s.line j.line).owner = some t.owner
  | none => true

/-- The lowest-numbered FREE slot (R57, R58). -/
def State.lowestFree (s : State) : Option SlotNo := allSlots.find? (fun n => (s.slot n).isNone)

/-- TRIG_DEFINE's own checks and effect (R55 to R57). With the held count below the quota a slot is FREE (R47); the
last refusal is not met then. -/
def trigDefineBody (p : Port) (ps : List Byte) (s : State) : Reply :=
  match descriptionOf ps with
  | none => .refuse .badArg
  | some d =>
    match d.toTrigger p s with
    | none => .refuse .range
    | some t =>
      if s.lineClaimed t = false then .refuse .notClaimed
      else if (s.session p).quota ≤ s.heldBy p then .refuse .noRoom
      else
        match s.lowestFree with
        | none => .refuse .noRoom
        | some n =>
          .ok ((s.setSlot n (some t)).setHeld p (s.heldBy p + 1)) [byteOf n, byteOf (s.heldBy p + 1)]

/-- TRIG_DEFINE (R57). -/
def execTrigDefine (p : Port) (s : State) : Answer := .next (s.runCommand .trigDefine p (trigDefineBody p))

/-- The two checks of a command that names a slot: its number, its owner (R53). -/
def State.withSlot (p : Port) (n : Nat) (s : State) (k : SlotNo → Trigger → Reply) : Reply :=
  match below 96 n with
  | none => .refuse .range
  | some n =>
    match s.slot n with
    | none => .refuse .notOwner
    | some t => if t.owner = p then k n t else .refuse .notOwner

/-- TRIG_ARM's own checks and effect (R59, R60). The epoch bytes are not looked at unless an epoch is given (R182). -/
def trigArmBody (p : Port) (ps : List Byte) (s : State) : Reply :=
  s.withSlot p (paramNat ps 0) fun n t =>
    if t.state ≠ .staged then .refuse .state
    else if paramNat ps 1 ≠ 0 ∧ paramHalf ps 2 ≠ s.epochOf t.axis then .refuse .epoch
    else if t.fits (s.axis t.axis).config.modulus = false then .refuse .range
    else .ok (s.arm n t) (le32 t.origin ++ le16 (s.epochOf t.axis))

/-- TRIG_ARM (R60). -/
def execTrigArm (p : Port) (s : State) : Answer := .next (s.runCommand .trigArm p (trigArmBody p))

/-- TRIG_DISARM's own check and effect (R61). -/
def trigDisarmBody (p : Port) (ps : List Byte) (s : State) : Reply :=
  s.withSlot p (paramNat ps 0) fun n t =>
    if t.state ≠ .armed then .refuse .state else .ok (s.unarm n t .staged) []

/-- TRIG_DISARM (R61). -/
def execTrigDisarm (p : Port) (s : State) : Answer := .next (s.runCommand .trigDisarm p (trigDisarmBody p))

/-- TRIG_DELETE's own check and effect (R43, R62). -/
def trigDeleteBody (p : Port) (ps : List Byte) (s : State) : Reply :=
  s.withSlot p (paramNat ps 0) fun n t =>
    if t.state = .retiring then .refuse .state
    else
      let s' := (s.unplace t.axis n).settleGiveUp n t
      .ok s' [slotStateCode ((s'.slot n).map (·.state)), byteOf (s'.heldBy p)]

/-- TRIG_DELETE (R62). -/
def execTrigDelete (p : Port) (s : State) : Answer := .next (s.runCommand .trigDelete p (trigDeleteBody p))

/-- TRIG_READ's response; it changes nothing (R63). -/
def trigReadBody (p : Port) (ps : List Byte) (s : State) : Reply :=
  s.withSlot p (paramNat ps 0) fun _ t => .ok s t.record

/-- TRIG_READ (R63). -/
def execTrigRead (p : Port) (s : State) : Answer := .next (s.runCommand .trigRead p (trigReadBody p))

/-- One entry of TRIG_LIST (R64, section 10.7). -/
def State.listEntry (s : State) (n : SlotNo) : List Byte :=
  match s.slot n with
  | some t => [byteOf n, portCode (some t.owner)] ++ le32 t.target ++ [t.dir.code]
  | none => []

/-- TRIG_LIST's own checks and response; it changes nothing (R64). -/
def trigListBody (ps : List Byte) (s : State) : Reply :=
  match below 4 (paramNat ps 0) with
  | none => .refuse .range
  | some a =>
    if 95 < paramNat ps 1 then .refuse .range
    else
      let l := s.armList a
      let page := (l.drop (paramNat ps 1)).take Config.listPage
      .ok s ([byteOf l.length, byteOf page.length] ++ page.flatMap s.listEntry)

/-- TRIG_LIST (R64). -/
def execTrigList (p : Port) (s : State) : Answer := .next (s.runCommand .trigList p trigListBody)

end Sys2Proof.Machine
end

