-- ==== Sys2Proof/Machine/Lines.lean ====
section
/-!
DEFINITION. The output line unit's commands: PULSE_EXPIRY and the four line commands of chapter 5.
-/
namespace Sys2Proof.Machine

/-- PULSE_EXPIRY (R102). -/
def execPulseExpiry (l : LineNo) (s : State) : Answer :=
  .next (
    if (s.line l).timer = .due then s.setLine l { s.line l with state := .inactive, timer := .stopped } else s)

/-- The line number check every line command makes first (R95). -/
def withLine (n : Nat) (k : LineNo → Reply) : Reply :=
  match below 8 n with
  | none => .refuse .range
  | some l => k l

/-- LINE_CLAIM's own checks and effect (R96). -/
def lineClaimBody (p : Port) (ps : List Byte) (s : State) : Reply :=
  withLine (paramNat ps 0) fun l =>
    match Polarity.ofCode (paramNat ps 1), Release.ofCode (paramNat ps 2) with
    | some polarity, some release =>
      match (s.line l).owner with
      | some q => if q = p then .refuse .state else .refuse .owned
      | none =>
        .ok (s.setLine l
          { owner := some p, polarity := polarity, release := release, state := .inactive, timer := .stopped }) []
    | _, _ => .refuse .badArg

/-- LINE_CLAIM (R96). -/
def execLineClaim (p : Port) (s : State) : Answer := .next (s.runCommand .lineClaim p (lineClaimBody p))

/-- Whether slot `n` is STAGED or ARMED, owned by port `p`, and names line `l` (R97). -/
def State.slotNames (p : Port) (l : LineNo) (s : State) (n : SlotNo) : Bool :=
  match s.slot n with
  | some t => t.owner = p ∧ t.state ≠ .retiring ∧ t.job.map (·.line) = some l
  | none => false

/-- LINE_RELEASE's own checks and effect (R97). -/
def lineReleaseBody (p : Port) (ps : List Byte) (s : State) : Reply :=
  withLine (paramNat ps 0) fun l =>
    if (s.line l).owner ≠ some p then .refuse .notClaimed
    else if allSlots.any (s.slotNames p l) then .refuse .inUse
    else .ok (s.setLine l (s.line l).giveUp) []

/-- LINE_RELEASE (R97). -/
def execLineRelease (p : Port) (s : State) : Answer := .next (s.runCommand .lineRelease p (lineReleaseBody p))

/-- LINE_DRIVE's own checks and effect (R99). -/
def lineDriveBody (p : Port) (ps : List Byte) (s : State) : Reply :=
  withLine (paramNat ps 0) fun l =>
    if (s.line l).owner ≠ some p then .refuse .notClaimed
    else
      match LineAction.ofCode (paramNat ps 1) (paramHalf ps 2).toNat with
      | none => .refuse .badArg
      | some act =>
        let r := (s.line l).act act
        .ok (s.actLine l act) ([r.state.code] ++ le16 (BitVec.ofNat 16 r.timer.remaining))

/-- LINE_DRIVE (R99). -/
def execLineDrive (p : Port) (s : State) : Answer := .next (s.runCommand .lineDrive p (lineDriveBody p))

/-- The response of LINE_READ (R107, section 10.7). -/
def LineRec.record (r : LineRec) : List Byte :=
  [portCode r.owner, r.polarity.code, r.release.code, r.state.code] ++ le16 (BitVec.ofNat 16 r.timer.remaining)

/-- LINE_READ's response; it changes nothing (R107). -/
def lineReadBody (ps : List Byte) (s : State) : Reply :=
  withLine (paramNat ps 0) fun l => .ok s (s.line l).record

/-- LINE_READ (R107). -/
def execLineRead (p : Port) (s : State) : Answer := .next (s.runCommand .lineRead p lineReadBody)

end Sys2Proof.Machine
end

