-- ==== Sys2Proof/Machine/Notes.lean ====
section
/-!
DEFINITION. The notification units' commands: NOTE_READ and NOTE_ACK (chapter 6).
-/
namespace Sys2Proof.Machine

/-- NOTE_READ's own check and response; it changes nothing (R117). -/
def noteReadBody (p : Port) (ps : List Byte) (s : State) : Reply :=
  let max := paramNat ps 0
  if max = 0 ∨ Config.maxRead < max then .refuse .range
  else .ok s (((s.note p).queue.take max).flatMap Note.record)

/-- NOTE_READ (R117). -/
def execNoteRead (p : Port) (s : State) : Answer := .next (s.runCommand .noteRead p (noteReadBody p))

/-- What an acknowledgement of the first `k` notes leaves (R118, R119). -/
def NoteUnit.removed (k : Nat) (u : NoteUnit) : Moved := moveOwed (u.queue.drop k) u.nextSeq u.owed

/-- The unit after the move. -/
def NoteUnit.afterMove (m : Moved) (u : NoteUnit) : NoteUnit :=
  { u with queue := m.queue, nextSeq := m.nextSeq, owed := m.owed, ntf := ntfOf m.queue }

/-- NOTE_ACK's own check and effect (R118 to R120). -/
def noteAckBody (p : Port) (ps : List Byte) (s : State) : Reply :=
  let u := s.note p
  match u.queue.findIdx? (fun n => n.seq = paramHalf ps 0) with
  | none => .refuse .seqUnknown
  | some k =>
    let m := u.removed (k + 1)
    .ok (m.freed.foldl (fun s n => s.lastOwedMoved n) (s.setNote p (u.afterMove m)))
      ([byteOf (k + 1), byteOf (u.owed.length - m.owed.length), byteOf m.queue.length]
        ++ le16 (BitVec.ofNat 16 m.owed.length))

/-- NOTE_ACK (R118). -/
def execNoteAck (p : Port) (s : State) : Answer := .next (s.runCommand .noteAck p (noteAckBody p))

end Sys2Proof.Machine
end

