-- ==== Sys2Proof/Machine/Views.lean ====
section
/-!
DEFINITION. The view unit's commands: SNAP, SNAP_AXIS_STEP and SUBSCRIBE (chapter 7).
-/
namespace Sys2Proof.Machine

/-- The axes a mask names, in axis order (R135). -/
def axesOfMask (m : Nat) : List Axis := allAxes.filter (fun a => m.testBit a)

/-- SNAP (R135): the common checks and the mask check; an accepted SNAP then runs by its axis steps (log 10). -/
def execSnap (p : Port) (s : State) : Answer :=
  .next (
    match s.runnable .snap p with
    | none => s
    | some req =>
      match s.commonCheck .snap p req with
      | some r => s.complete p req r []
      | none =>
        let mask := paramNat req.params 0
        if mask = 0 ∨ 15 < mask then s.complete p req .range []
        else s.setLink p { s.link p with flight := some ⟨req, .snapping ⟨axesOfMask mask, 0, []⟩⟩ })

/-- The 16-byte record of one axis (R136, section 10.7). -/
def State.snapRecord (p : Port) (a : Axis) (s : State) : List Byte :=
  let u := s.axis a
  let c := (s.view p).contexts[a]
  le32 u.position ++ le16 u.revolution ++ le16 u.epoch ++ le32 (BitVec.ofInt 32 c.delta) ++ le32 (s.tick - c.baseTick)

/-- The context of port `p` and axis `a` is reset now (R131). -/
def State.resetContext (p : Port) (a : Axis) (s : State) : State :=
  s.setView p { s.view p with contexts := (s.view p).contexts.set a (.resetAt s.tick) }

/-- SNAP_AXIS_STEP (R136, R185): the next axis of the SNAP in flight; the last one makes the response READY. -/
def execSnapAxisStep (p : Port) (s : State) : Answer :=
  .next (
    match (s.link p).flight with
    | some ⟨req, .snapping ⟨a :: rest, flags, records⟩⟩ =>
      let flags := flags ||| snapFlags a (s.view p).contexts[a] (s.axis a).doubt
      let records := records ++ s.snapRecord p a
      let s := s.resetContext p a
      match rest with
      | [] => s.complete p req .ok (le16 flags ++ records)
      | b :: rest => s.setLink p { s.link p with flight := some ⟨req, .snapping ⟨b :: rest, flags, records⟩⟩ }
    | _ => s)

/-- SUBSCRIBE's own checks and effect (R140). -/
def subscribeBody (p : Port) (ps : List Byte) (s : State) : Reply :=
  match below 4 (paramNat ps 0) with
  | none => .refuse .range
  | some a =>
    if 15 < paramNat ps 1 then .refuse .range
    else
      .ok (s.setView p { s.view p with masks := (s.view p).masks.set a (BitVec.ofNat 4 (paramNat ps 1)) })
        [byteOf (s.view p).masks[a].toNat]

/-- SUBSCRIBE (R140). -/
def execSubscribe (p : Port) (s : State) : Answer := .next (s.runCommand .subscribe p (subscribeBody p))

end Sys2Proof.Machine
end

