-- ==== Sys2Proof/Machine/Sessions.lean ====
section
/-!
DEFINITION. The session manager's commands: KEEPALIVE_EXPIRY, the steps of the purge, and the session commands of
chapter 8.
-/
namespace Sys2Proof.Machine

/-! ### Keepalive and purge -/

/-- A purge begins: the session is ending and its keepalive timer stops (R154, R157). -/
def Session.beginPurge (byExpiry : Bool) (r : Session) : Session :=
  { r with purge := some ⟨byExpiry, false, false, false, false, false⟩, timer := .stopped }

/-- A link unit whose waiting command is dropped (R177): EMPTY, no held request, no mark; REJECT stays. -/
def Link.drop (l : Link) : Link := { l with slot := .empty, heldRequest := none, discard := false, flight := none }

/-- Drop port `p`'s command if one is waiting for its first step (R177). Beside the held and the arbiter-waiting
commands R177 names, the model counts as waiting a command that is granted but has not taken its first step (log 9) and
a NOP, NOTE_READ, NOTE_ACK, SNAP or SUBSCRIBE that is accepted but has not (log 19). -/
def State.dropWaiting (p : Port) (s : State) : State :=
  match (s.link p).flight with
  | some _ => (s.setLink p (s.link p).drop).leaveArbiter p
  | none => s

/-- KEEPALIVE_EXPIRY (R155, R177): not while the port's command runs. -/
def execKeepaliveExpiry (p : Port) (s : State) : Answer :=
  .next (
    if s.keepaliveDue p then
      let s := s.dropWaiting p
      s.setSession p ((s.session p).beginPurge true)
    else s)

/-- A step of port `p`'s purge that is due while `due` holds of the purge: mark it, and do it. -/
def State.purgeStep (p : Port) (due : Purge → Bool) (mark : Purge → Purge) (work : State → State) (s : State) : State :=
  match (s.session p).purge with
  | some g =>
    if due g then
      let s := work s
      s.setSession p { s.session p with purge := some (mark g) }
    else s
  | none => s

/-- A slot after the table's purge step for port `p`. -/
def unlessOwnedBy (p : Port) : Option Trigger → Option Trigger
  | some t => if t.owner = p then none else some t
  | none => none

/-- Whether port `p` owns slot `n`. -/
def State.ownsSlot (p : Port) (s : State) (n : SlotNo) : Bool :=
  match s.slot n with
  | some t => t.owner = p
  | none => false

/-- The table's part of a purge (R66). -/
def State.purgeTable (p : Port) (s : State) : State :=
  { s with
    slots := Vector.ofFn (fun n : SlotNo => unlessOwnedBy p (s.slot n))
    armLists := Vector.ofFn (fun a : Axis => (s.armList a).filter (fun n => s.ownsSlot p n = false)) : State }.setHeld p 0

/-- The line unit's part of a purge (R108). -/
def State.purgeLines (p : Port) (s : State) : State :=
  { s with lines := Vector.ofFn (fun l : LineNo => if (s.line l).owner = some p then (s.line l).giveUp else s.line l) }

/-- The notification unit's part of a purge (R129). -/
def State.purgeNotes (p : Port) (s : State) : State := s.setNote p NoteUnit.reset

/-- The view unit's part of a purge (R144). -/
def State.purgeView (p : Port) (s : State) : State := s.setView p (.resetAt s.tick)

/-- The axis rights' part of a purge (R24). -/
def State.purgeRights (p : Port) (s : State) : State :=
  { s with axisRights := Vector.ofFn (fun a : Axis => if s.axisRight a = some p then none else s.axisRight a) }

/-- TABLE_PURGE (R66). -/
def execTablePurge (p : Port) (s : State) : Answer :=
  .next (s.purgeStep p (fun g => !g.table) (fun g => { g with table := true }) (State.purgeTable p))

/-- LINE_PURGE (R108): after the trigger table has taken its step (R157). -/
def execLinePurge (p : Port) (s : State) : Answer :=
  .next (s.purgeStep p (fun g => g.table && !g.lines) (fun g => { g with lines := true }) (State.purgeLines p))

/-- NOTE_PURGE (R129). -/
def execNotePurge (p : Port) (s : State) : Answer :=
  .next (s.purgeStep p (fun g => !g.notes) (fun g => { g with notes := true }) (State.purgeNotes p))

/-- VIEW_PURGE (R144). -/
def execViewPurge (p : Port) (s : State) : Answer :=
  .next (s.purgeStep p (fun g => !g.view) (fun g => { g with view := true }) (State.purgeView p))

/-- AXIS_RIGHTS_PURGE (R24). -/
def execAxisRightsPurge (p : Port) (s : State) : Answer :=
  .next (s.purgeStep p (fun g => !g.rights) (fun g => { g with rights := true }) (State.purgeRights p))

/-- Every block has taken its step (R157). -/
def Purge.allDone (g : Purge) : Bool := g.table && g.lines && g.notes && g.view && g.rights

/-- The session record at the close of a purge (R157, R163); the session number is kept. -/
def Session.close (g : Purge) (r : Session) : Session :=
  { r with state := .closed, purge := none, quota := 0, keepalive := 0, lost := r.lost || g.byExpiry }

/-- The close of a purge in the session manager (R157). -/
def State.closeSession (p : Port) (g : Purge) (s : State) : State :=
  { s with unreserved := s.unreserved + (s.session p).quota : State }.setSession p ((s.session p).close g)

/-- The port's command once its session is CLOSED: a CLOSE answers (R152), a held command goes on its way (R173). -/
def State.afterPurge (p : Port) (s : State) : State :=
  match (s.link p).flight with
  | some ⟨req, .closing⟩ => s.complete p req .ok []
  | some ⟨req, .held⟩ => s.startOnWay p req
  | _ => s

/-- PURGE_CLOSE (R157). -/
def execPurgeClose (p : Port) (s : State) : Answer :=
  .next (
    match (s.session p).purge with
    | some g => if g.allDone then (s.closeSession p g).afterPurge p else s
    | none => s)

/-! ### The session commands -/

/-- An accepted OPEN in the session manager (R149, R150). -/
def Session.opened (k quota : Nat) (r : Session) : Session :=
  { r with
    state := .opened, number := r.number + 1, keepalive := k, quota := quota, fresh := false, lost := false
    timer := .load (k * Config.ticksPerMs) }

/-- OPEN's own checks and effect (R148 to R150, R128, R143). -/
def openBody (p : Port) (ps : List Byte) (s : State) : Reply :=
  let k := (paramHalf ps 0).toNat
  let quota := paramNat ps 2
  let r := s.session p
  if r.state = .opened then .refuse .sessionOpen
  else if Config.slotCount < quota then .refuse .badArg
  else if s.unreserved < quota then .refuse .noRoom
  else
    .ok (((({ s with unreserved := s.unreserved - quota : State }.setSession p (r.opened k quota)).setNote p
        { s.note p with intake := true, nextSeq := 0 })).setView p (.resetAt s.tick))
      (le16 (r.number + 1) ++ [yesNo r.fresh, yesNo r.lost, s.resetCause.code])

/-- OPEN (R149). -/
def execOpenSession (p : Port) (s : State) : Answer := .next (s.runCommand .openSession p (openBody p))

/-- CLOSE (R152): after the common checks its purge begins, under the grant; it answers at the close of the purge. -/
def execCloseSession (p : Port) (s : State) : Answer :=
  .next (
    match s.runnable .closeSession p with
    | none => s
    | some req =>
      match s.commonCheck .closeSession p req with
      | some r => s.complete p req r []
      | none =>
        (s.setSession p ((s.session p).beginPurge false)).setLink p
          { s.link p with flight := some ⟨req, .closing⟩ })

/-- The number of FREE slots (R153). -/
def State.freeSlots (s : State) : Nat := allSlots.countP (fun n => (s.slot n).isNone)

/-- STATUS's response; it changes nothing (R153, section 10.7). -/
def statusBody (p : Port) (_ps : List Byte) (s : State) : Reply :=
  .ok s (allPorts.map (fun q => (s.session q).state.code) ++ allPorts.flatMap (fun q => le16 (s.session q).number)
    ++ [byteOf s.unreserved, byteOf s.freeSlots] ++ allLines.map (fun l => portCode (s.line l).owner)
    ++ allAxes.map (fun a => portCode (s.axisRight a)) ++ [byteOf (s.note p).queue.length])

/-- STATUS (R153). -/
def execStatus (p : Port) (s : State) : Answer := .next (s.runCommand .status p (statusBody p))

/-- AXIS_CLAIM's own checks and effect (R159). -/
def axisClaimBody (p : Port) (ps : List Byte) (s : State) : Reply :=
  match below 4 (paramNat ps 0) with
  | none => .refuse .range
  | some a =>
    match s.axisRight a with
    | some q => if q = p then .refuse .state else .refuse .owned
    | none => .ok (s.setAxisRight a (some p)) []

/-- AXIS_CLAIM (R159). -/
def execAxisClaim (p : Port) (s : State) : Answer := .next (s.runCommand .axisClaim p (axisClaimBody p))

/-- AXIS_RELEASE's own checks and effect (R160). -/
def axisReleaseBody (p : Port) (ps : List Byte) (s : State) : Reply :=
  match below 4 (paramNat ps 0) with
  | none => .refuse .range
  | some a => if s.axisRight a ≠ some p then .refuse .notClaimed else .ok (s.setAxisRight a none) []

/-- AXIS_RELEASE (R160). -/
def execAxisRelease (p : Port) (s : State) : Answer := .next (s.runCommand .axisRelease p (axisReleaseBody p))

end Sys2Proof.Machine
end

