-- ==== Sys2Proof/Machine/LinkPort.lean ====
section
/-!
DEFINITION. The port link units' commands: TRANSACTION_START, POLL, RESYNC, REQUEST_FRAME and NOP (chapter 9).
-/
namespace Sys2Proof.Machine

/-! ### The outgoing frame (R166, section 10.4) -/

/-- RESP_TAG, RESULT, DLEN and data (R166). -/
def Link.responseFields (l : Link) : List Byte :=
  match l.slot, l.heldResponse, l.heldRequest with
  | .ready, some r, _ => [r.tag, r.result.code, byteOf r.data.length] ++ r.data
  | .pending, _, some req => [req.tag, 0, 0]
  | _, _, _ => [0, 0, 0]

/-- The bytes the CRC of an outgoing frame covers. -/
def State.frameBody (p : Port) (s : State) : List Byte :=
  let l := s.link p
  [(s.session p).stateByte, byteOf (s.note p).queue.length, l.slot.code, l.reject.code, l.rejectTag]
    ++ l.responseFields

/-- The outgoing frame of port `p` at this moment. -/
def State.outgoing (p : Port) (s : State) : List Byte :=
  Config.outgoingSync :: (s.frameBody p ++ [crc8 (s.frameBody p)])

/-- What data out shows over one byte (R165). `unstated` is driven at a level the manual does not give. -/
inductive DataOut where
  | highImpedance
  | shifts (b : Byte)
  | unstated
  deriving DecidableEq, Repr

/-- Data out of port `p` at byte `k` of the time select is low: the frame and then 0xFF in a transaction (R166); high
impedance under reset and while select is high (R165); driven, but the manual does not say with what, while select has
stayed low since a reset (log 11). -/
def State.dataOut (p : Port) (k : Nat) (s : State) : DataOut :=
  let l := s.link p
  if s.inReset then .highImpedance
  else if l.inTransaction then .shifts (l.outFrame.getD k 0xFF)
  else if l.selectLow then .unstated
  else .highImpedance

/-- TRANSACTION_START (R165, R166): select falls. While a reset is in force no transaction begins (R165, R178); a line
already low cannot fall. -/
def execTransactionStart (p : Port) (s : State) : Answer :=
  let l := s.link p
  .next (
    if l.selectLow then s
    else if s.inReset then s.setLink p { l with selectLow := true }
    else s.setLink p { l with selectLow := true, inTransaction := true, outFrame := s.outgoing p })

/-! ### The verdict at the end of a transaction -/

/-- Select is high and no transaction goes on (R165). -/
def Link.deselect (l : Link) : Link := { l with selectLow := false, inTransaction := false, outFrame := [] }

/-- Select rises: the end of a transaction gets the verdict's work, the end of a time select was low without one gets
none (R165, R178). -/
def State.endTransaction (p : Port) (work : State → State) (s : State) : State :=
  let s' := s.setLink p (s.link p).deselect
  if (s.link p).inTransaction then work s' else s'

/-- POLL (R167): the link unit stays as it stands. -/
def execPoll (p : Port) (bits : List Bool) (s : State) : Answer :=
  .next (if verdictOf (wholeBytes bits) = .poll then s.endTransaction p id else s)

/-- The link unit after a resync (R168). -/
def Link.resynced (l : Link) : Link :=
  let l := { l with reject := .none, rejectTag := 0, heldRequest := none }
  match l.slot with
  | .ready => { l with slot := .empty, heldResponse := none }
  | .empty => l
  | .pending => { l with discard := true }

/-- RESYNC (R168). -/
def execResync (p : Port) (bits : List Bool) (s : State) : Answer :=
  .next (
    if verdictOf (wholeBytes bits) = .resync then
      s.endTransaction p (fun s => s.setLink p (s.link p).resynced)
    else s)

/-- The keepalive reload of a valid frame (R154): session OPEN, not ending, K not 0. -/
def Session.reload (r : Session) : Session :=
  if r.state = .opened ∧ r.purge = none ∧ r.keepalive ≠ 0 then
    { r with timer := .load (r.keepalive * Config.ticksPerMs) }
  else r

/-- The acceptance of a request in the link unit (R170). -/
def Link.accept (req : Request) (l : Link) : Link :=
  { l with slot := .pending, discard := false, heldRequest := some req, heldResponse := none, reject := .none,
           rejectTag := 0, flight := some ⟨req, .held⟩ }

/-- An accepted request: taken by the link unit, then held while the session is ending, else on its way (R173). -/
def State.acceptRequest (p : Port) (req : Request) (s : State) : State :=
  let s := s.setLink p ((s.link p).accept req)
  if (s.session p).purge.isSome then s else s.startOnWay p req

/-- A valid frame, by the slot's state (R170, R171). -/
def State.takeFrame (p : Port) (req : Request) (s : State) : State :=
  let l := s.link p
  match l.slot with
  | .pending => s.setLink p { l with reject := .pending, rejectTag := req.tag }
  | .ready =>
    if l.heldRequest = some req then s.setLink p { l with reject := .none, rejectTag := 0 }
    else s.acceptRequest p req
  | .empty => s.acceptRequest p req

/-- The verdict on a request frame (R169, R170). -/
def State.judgeFrame (p : Port) (bytes : List Byte) (s : State) : State :=
  match parseFrame bytes with
  | .refused reason tag => s.setLink p { s.link p with reject := reason, rejectTag := tag }
  | .valid req => (s.setSession p (s.session p).reload).takeFrame p req

/-- REQUEST_FRAME (R169 to R171, R173). -/
def execRequestFrame (p : Port) (bits : List Bool) (s : State) : Answer :=
  .next (
    if verdictOf (wholeBytes bits) = .request then
      s.endTransaction p (State.judgeFrame p (wholeBytes bits))
    else s)

/-- NOP (R176). -/
def execNop (p : Port) (s : State) : Answer := .next (s.runCommand .nop p (fun _ s => .ok s []))

end Sys2Proof.Machine
end

