-- ==== Sys2Proof/Machine/Dispatch.lean ====
section
/-!
DEFINITION. One arm for each command of the table: one direct call of its meaning.
-/
namespace Sys2Proof.Machine

def exec (i : Instr) (s : State) : Host.Outcome State Fault Refusal :=
  match i with
  | .deviceReset source => Sys2Proof.Machine.execDeviceReset source s
  | .tick => Sys2Proof.Machine.execTick s
  | .inputSettling axis input => Sys2Proof.Machine.execInputSettling axis input s
  | .acceptedChange axis inputs makers => Sys2Proof.Machine.execAcceptedChange axis inputs makers s
  | .stallTimerExpiry axis => Sys2Proof.Machine.execStallTimerExpiry axis s
  | .matchCountArrival axis => Sys2Proof.Machine.execMatchCountArrival axis s
  | .referenceRecord axis => Sys2Proof.Machine.execReferenceRecord axis s
  | .pulseExpiry line => Sys2Proof.Machine.execPulseExpiry line s
  | .keepaliveExpiry port => Sys2Proof.Machine.execKeepaliveExpiry port s
  | .tablePurge port => Sys2Proof.Machine.execTablePurge port s
  | .linePurge port => Sys2Proof.Machine.execLinePurge port s
  | .notePurge port => Sys2Proof.Machine.execNotePurge port s
  | .viewPurge port => Sys2Proof.Machine.execViewPurge port s
  | .axisRightsPurge port => Sys2Proof.Machine.execAxisRightsPurge port s
  | .purgeClose port => Sys2Proof.Machine.execPurgeClose port s
  | .transactionStart port => Sys2Proof.Machine.execTransactionStart port s
  | .poll port bits => Sys2Proof.Machine.execPoll port bits s
  | .resync port bits => Sys2Proof.Machine.execResync port bits s
  | .requestFrame port bits => Sys2Proof.Machine.execRequestFrame port bits s
  | .nop port => Sys2Proof.Machine.execNop port s
  | .openSession port => Sys2Proof.Machine.execOpenSession port s
  | .closeSession port => Sys2Proof.Machine.execCloseSession port s
  | .status port => Sys2Proof.Machine.execStatus port s
  | .axisClaim port => Sys2Proof.Machine.execAxisClaim port s
  | .axisRelease port => Sys2Proof.Machine.execAxisRelease port s
  | .axisSet port => Sys2Proof.Machine.execAxisSet port s
  | .axisClearDoubt port => Sys2Proof.Machine.execAxisClearDoubt port s
  | .axisRead port => Sys2Proof.Machine.execAxisRead port s
  | .axisRefarm port => Sys2Proof.Machine.execAxisRefarm port s
  | .axisPreset port makers => Sys2Proof.Machine.execAxisPreset port makers s
  | .trigDefine port => Sys2Proof.Machine.execTrigDefine port s
  | .trigArm port => Sys2Proof.Machine.execTrigArm port s
  | .trigDisarm port => Sys2Proof.Machine.execTrigDisarm port s
  | .trigDelete port => Sys2Proof.Machine.execTrigDelete port s
  | .trigRead port => Sys2Proof.Machine.execTrigRead port s
  | .trigList port => Sys2Proof.Machine.execTrigList port s
  | .lineClaim port => Sys2Proof.Machine.execLineClaim port s
  | .lineRelease port => Sys2Proof.Machine.execLineRelease port s
  | .lineDrive port => Sys2Proof.Machine.execLineDrive port s
  | .lineRead port => Sys2Proof.Machine.execLineRead port s
  | .noteRead port => Sys2Proof.Machine.execNoteRead port s
  | .noteAck port => Sys2Proof.Machine.execNoteAck port s
  | .snap port => Sys2Proof.Machine.execSnap port s
  | .snapAxisStep port => Sys2Proof.Machine.execSnapAxisStep port s
  | .subscribe port => Sys2Proof.Machine.execSubscribe port s
  | .sample pins => Sys2Proof.Machine.execSample pins s
  | .resetRelease => Sys2Proof.Machine.execResetRelease s

end Sys2Proof.Machine
end

