-- ==== Sys2Proof/Safety.lean ====
section
/-!
DEFINITION. What claims are stated in: when a command runs with its common checks passed, which groups of state two
states share, and the invariants of the part. An invariant is a claim's premise only where the rule it stands for keeps
it.
-/
namespace Sys2Proof.Machine

/-! ### When a command takes its first step -/

/-- Port `p`'s command in flight is `c` with request `req`, its first step is due (R173, R179) and it passes the common
checks (R174). -/
def State.Runs (s : State) (c : Cmd) (p : Port) (req : Request) : Prop :=
  s.runnable c p = some req ∧ s.commonCheck c p req = none

/-- Port `p`'s command `c` takes its first step and is refused with `r` at its own checks, and nothing but the port
link unit and the arbiter changes (R174, R175). -/
def State.RefusedWith (s : State) (i : Instr) (p : Port) (req : Request) (r : Result) : Prop :=
  exec i s = .next (s.complete p req r [])

/-- The port is ending: a purge of it runs (R145). -/
def State.ending (s : State) (p : Port) : Bool := (s.session p).purge.isSome

/-! ### Groups of state two states share -/

/-- The time base and the reset. -/
def SameTime (s t : State) : Prop :=
  t.tick = s.tick ∧ t.periods = s.periods ∧ t.inReset = s.inReset ∧ t.resetCause = s.resetCause

/-- The axis units and the pins they sampled. -/
def SameAxes (s t : State) : Prop := t.axes = s.axes ∧ t.pins = s.pins

/-- The trigger table and what is on its way to it. -/
def SameTable (s t : State) : Prop :=
  t.slots = s.slots ∧ t.armLists = s.armLists ∧ t.held = s.held ∧ t.tableEpoch = s.tableEpoch ∧ t.tableIn = s.tableIn

/-- The output lines. -/
def SameLines (s t : State) : Prop := t.lines = s.lines

/-- The notification units. -/
def SameNotes (s t : State) : Prop := t.notes = s.notes

/-- Contexts and masks. -/
def SameViews (s t : State) : Prop := t.views = s.views

/-- The session records and the unreserved quota. -/
def SameSessions (s t : State) : Prop := t.sessions = s.sessions ∧ t.unreserved = s.unreserved

/-- The axis configuration rights. -/
def SameRights (s t : State) : Prop := t.axisRights = s.axisRights

/-- The port link units. -/
def SameLinks (s t : State) : Prop := t.links = s.links

/-- The arbiter. -/
def SameArbiter (s t : State) : Prop := t.grant = s.grant ∧ t.waiting = s.waiting ∧ t.lastServed = s.lastServed

/-- Everything of the blocks a command works on: all but the port link units, the arbiter and the queue. -/
def SameBlocks (s t : State) : Prop :=
  SameTime s t ∧ SameAxes s t ∧ SameTable s t ∧ SameLines s t ∧ SameNotes s t ∧ SameViews s t ∧ SameSessions s t
    ∧ SameRights s t

/-- The link units of the ports other than `p`. -/
def SameOtherLinks (p : Port) (s t : State) : Prop := ∀ q, q ≠ p → t.link q = s.link q

/-! ### Words the claims use -/

/-- Run commands one after another. -/
def runAll : List Instr → State → Host.Outcome State Fault Refusal
  | [], s => .next s
  | c :: cs, s =>
    match exec c s with
    | .next t => runAll cs t
    | o => o

/-- The first step of a master's command on port `p`. -/
def Cmd.instr (p : Port) (makers : Makers) : Cmd → Instr
  | .nop => .nop p
  | .openSession => .openSession p
  | .closeSession => .closeSession p
  | .status => .status p
  | .axisClaim => .axisClaim p
  | .axisRelease => .axisRelease p
  | .axisSet => .axisSet p
  | .axisClearDoubt => .axisClearDoubt p
  | .axisRead => .axisRead p
  | .axisRefarm => .axisRefarm p
  | .axisPreset => .axisPreset p makers
  | .trigDefine => .trigDefine p
  | .trigArm => .trigArm p
  | .trigDisarm => .trigDisarm p
  | .trigDelete => .trigDelete p
  | .trigRead => .trigRead p
  | .trigList => .trigList p
  | .lineClaim => .lineClaim p
  | .lineRelease => .lineRelease p
  | .lineDrive => .lineDrive p
  | .lineRead => .lineRead p
  | .noteRead => .noteRead p
  | .noteAck => .noteAck p
  | .snap => .snap p
  | .subscribe => .subscribe p

/-- The level of one pin of an axis. -/
def levelOf (x : AxisPins) : Input → Bool
  | .pha => x.pha
  | .phb => x.phb
  | .idx => x.idx
  | .home => x.home

/-- The pair (PHA, PHB) that follows in the up sequence 00, 10, 11, 01, 00 (R6). -/
def nextUp : Bool × Bool → Bool × Bool
  | (false, false) => (true, false)
  | (true, false) => (true, true)
  | (true, true) => (false, true)
  | (false, true) => (false, false)

/-- The accepted changes of the phases taken, and nothing else. -/
def State.takePhaseLevels (a : Axis) (s : State) : State :=
  let u := s.axis a
  s.setAxis a { u with inputs := { u.inputs with
    pha := u.inputs.pha.acceptIfDue u.config.filterLen, phb := u.inputs.phb.acceptIfDue u.config.filterLen } }

/-- The accepted changes of the reference inputs taken, and nothing else. -/
def State.takeReferenceLevels (a : Axis) (s : State) : State :=
  let u := s.axis a
  s.setAxis a { u with inputs := { u.inputs with
    idx := u.inputs.idx.acceptIfDue u.config.filterLen, home := u.inputs.home.acceptIfDue u.config.filterLen } }

/-- The axis's reference state alone is changed. -/
def State.setRefState (a : Axis) (r : RefState) (s : State) : State := s.setAxis a { s.axis a with refState := r }

/-- An accepted change in the selected direction: from low for a rising edge, from high for a falling one (R26). -/
def Filter.isEdge (F : Nat) (sel : Edge) (f : Filter) : Bool :=
  F ≤ f.run ∧ ((sel = .rising ∧ f.level = some false) ∨ (sel = .falling ∧ f.level = some true))

/-- Port `p` hears the axis kind of bit `i` on axis `a`: session OPEN and the bit set in its mask (R141; section 10.6:
0 MOTION, 1 STILL, 2 REREF, 3 DOUBT). -/
def State.subscribed (s : State) (p : Port) (a : Axis) (i : Nat) : Bool :=
  (s.session p).state = .opened ∧ (s.view p).masks[a].getLsbD i = true

/-- The parameters of AXIS_SET that give axis `a` the configuration `c` (section 10.7). -/
def AxisConfig.params (a : Axis) (c : AxisConfig) : List Byte :=
  [byteOf a, c.mode.code, yesNo c.reverse, byteOf c.filterLen] ++ le32 (BitVec.ofNat 32 c.modulus)
    ++ le16 (BitVec.ofNat 16 c.stallLimit) ++ le32 c.preset ++ [c.indexEdge.code, c.homeEdge.code]

/-- The parameters of TRIG_DEFINE that describe the trigger `t` (section 10.7, R183). -/
def Trigger.params (t : Trigger) : List Byte :=
  [byteOf t.axis] ++ le16 t.tag ++ le32 t.origin ++ [t.dir.code]
    ++ (match t.job with
      | some j => [j.act.code, byteOf j.line] ++ le16 (BitVec.ofNat 16 j.act.width)
      | none => [0, 0xFF, 0, 0])
    ++ (match t.rep with
      | some r => le32 r.pitch ++ le16 (BitVec.ofNat 16 r.firesTotal)
      | none => [0, 0, 0, 0, 0, 0])
    ++ [(match t.successor with
      | some n => byteOf n
      | none => 0xFF), yesNo t.retain, t.bind.code, yesNo t.notify]

/-- The fields of a slot agree (R40) and lie in their ranges (R39): a pulse width from 1 to 65,535, a pitch positive
with UP, negative with DOWN and absent with EITHER, fires_total and fires_left at most 65,535. -/
def Trigger.Agrees (t : Trigger) : Prop :=
  (∀ j w, t.job = some j → j.act = .pulse w → 1 ≤ w ∧ w ≤ 65535) ∧
  (∀ r, t.rep = some r → r.firesTotal ≤ 65535 ∧ r.firesLeft ≤ r.firesTotal ∧
    ((t.dir = .up ∧ 0 < r.pitch.toInt) ∨ (t.dir = .down ∧ r.pitch.toInt < 0)))

/-- Origin and pitch lie in the range of an axis of this modulus (R56, R59). -/
def Trigger.InRange (t : Trigger) (modulus : Nat) : Prop :=
  modulus ≠ 0 → (0 ≤ t.origin.toInt ∧ t.origin.toInt < modulus) ∧
    ∀ r, t.rep = some r → r.pitch.toInt < modulus ∧ -(modulus : Int) < r.pitch.toInt

/-- The record as a fire's count of fires leaves it, without the change of state (R72). -/
def Trigger.counted (t : Trigger) : Trigger :=
  { t with rep := t.rep.map fun r => { r with firesLeft := if r.firesTotal = 0 then r.firesLeft else r.firesLeft - 1 } }

/-- The slot finishes at its next fire: no pitch, or its last counted fire (R72). -/
def Trigger.finishing (t : Trigger) : Bool :=
  match t.rep with
  | none => true
  | some r => r.firesTotal ≠ 0 ∧ r.firesLeft ≤ 1

/-- Whether step 4 of a fire of slot `n` arms the slot `m` it names, by the table of R76 and, for a slot that names
itself, of R77, from the state before the fire. -/
def State.chainArms (s : State) (n : SlotNo) (t : Trigger) (m : SlotNo) : Bool :=
  if m = n then t.finishing && t.retain && t.fits (s.axis t.axis).config.modulus
  else
    match s.slot m with
    | some u => u.state = .staged ∧ u.owner = t.owner ∧ u.fits (s.axis u.axis).config.modulus
    | none => false

/-- A step of port `p`'s purge leaves the purge at `g` and everything but the block that took it as it was: the other
sessions, the time base, the axes, the links and the arbiter among it. -/
def PurgeAt (p : Port) (g : Purge) (s t : State) : Prop :=
  t.session p = { s.session p with purge := some g } ∧ (∀ q, q ≠ p → t.session q = s.session q) ∧
    t.unreserved = s.unreserved ∧ t.tableEpoch = s.tableEpoch ∧ t.tableIn = s.tableIn ∧ SameTime s t ∧ SameAxes s t ∧
    SameLinks s t ∧ SameArbiter s t

/-- Command numbers with their commands and parameter lengths (section 10.5). -/
def commandTable : List (Nat × Cmd × Nat) :=
  [(0x00, .nop, 0), (0x01, .openSession, 3), (0x02, .closeSession, 0), (0x03, .status, 0), (0x04, .axisClaim, 1),
    (0x05, .axisRelease, 1), (0x10, .axisSet, 16), (0x11, .axisClearDoubt, 1), (0x12, .axisRead, 1),
    (0x13, .axisRefarm, 2), (0x14, .axisPreset, 5)]
  ++ [(0x20, .trigDefine, 22), (0x21, .trigArm, 4), (0x22, .trigDisarm, 1), (0x23, .trigDelete, 1),
    (0x24, .trigRead, 1), (0x25, .trigList, 2), (0x30, .lineClaim, 3), (0x31, .lineRelease, 1), (0x32, .lineDrive, 4),
    (0x33, .lineRead, 1), (0x40, .noteRead, 1), (0x41, .noteAck, 2), (0x50, .snap, 1), (0x51, .subscribe, 2)]

/-! ### Invariants -/

/-- A notification unit keeps its laws: at most 16 notes with consecutive numbers up to the one below the next (R113),
an owed list only behind a full queue and with each source and kind at most once (R115), counts from 1 to 65,535 (R111,
R114), NTF low exactly while a note waits (R121), and nothing held while intake is OFF (R109). -/
structure NoteUnit.Ok (u : NoteUnit) : Prop where
  length : u.queue.length ≤ Config.queueCap
  seqs : u.queue.map (·.seq) = (List.range u.queue.length).map (fun i => u.nextSeq - BitVec.ofNat 16 (u.queue.length - i))
  full : u.owed ≠ [] → u.queue.length = Config.queueCap
  once : u.owed.Pairwise (fun e f => ¬(e.report.source = f.report.source ∧ e.report.kind = f.report.kind))
  noteCounts : ∀ n ∈ u.queue, 1 ≤ n.count ∧ n.count ≤ Config.countCap
  owedCounts : ∀ e ∈ u.owed, 1 ≤ e.count ∧ e.count ≤ Config.countCap
  ntf : u.ntf = .low ↔ u.queue ≠ []
  off : u.intake = false → u.queue = [] ∧ u.owed = []

/-- A session record keeps its laws: a CLOSED port is not ending and has quota and K 0 (R145); the keepalive timer is
stopped unless the session is OPEN and not ending (R154). -/
structure Session.Ok (r : Session) : Prop where
  closed : r.state = .closed → r.purge = none ∧ r.quota = 0 ∧ r.keepalive = 0
  timer : r.timer ≠ .stopped → r.state = .opened ∧ r.purge = none

/-- The sessions keep their laws, and the unreserved quota is 96 less the quotas of the OPEN sessions (R145). -/
structure State.SessionsOk (s : State) : Prop where
  each : ∀ p, (s.session p).Ok
  quota : s.unreserved + (s.session .a).quota + (s.session .b).quota + (s.session .c).quota = Config.slotCount

/-- The notification units keep their laws, and intake is OFF while the port is CLOSED and once its purge step is
done (R109, R127, R129). -/
structure State.NotesOk (s : State) : Prop where
  sessions : ∀ p, (s.session p).Ok
  each : ∀ p, (s.note p).Ok
  closed : ∀ p, (s.session p).state = .closed → (s.note p).intake = false
  purged : ∀ p g, (s.session p).purge = some g → g.notes = true → (s.note p).intake = false

/-- A filter keeps its laws for filter length `F`: the run length goes to F at most, and stays 0 until the input
settles (R3, R4). -/
structure Filter.Ok (F : Nat) (f : Filter) : Prop where
  run : f.run ≤ F
  unsettled : f.level = none → f.run = 0

/-- An axis keeps its laws: F is 1 to 32 and the modulus 0 or 2 to 2,147,483,647 (R18); on a modular axis position and
preset lie in 0 to M − 1 (R10, R30); on a linear axis the revolution count is 0 (R9); the monitor is OFF exactly while
the stall limit is 0, and its timer runs exactly while the axis is MOVING (section 1.6). -/
structure AxisUnit.Ok (u : AxisUnit) : Prop where
  filterLen : 1 ≤ u.config.filterLen ∧ u.config.filterLen ≤ Config.maxFilterLen
  modulus : u.config.modulus ≠ 1 ∧ u.config.modulus ≤ Config.maxModulus
  position : inRange u.config.modulus u.position = true
  preset : inRange u.config.modulus u.config.preset = true
  linear : u.config.modulus = 0 → u.revolution = 0
  off : u.motion = .off ↔ u.config.stallLimit = 0
  timer : u.stallTimer ≠ .stopped ↔ u.motion = .moving
  pha : u.inputs.pha.Ok u.config.filterLen
  phb : u.inputs.phb.Ok u.config.filterLen
  idx : u.inputs.idx.Ok u.config.filterLen
  home : u.inputs.home.Ok u.config.filterLen

/-- Every axis keeps its laws. -/
def State.AxesOk (s : State) : Prop := ∀ a, (s.axis a).Ok

/-- Every delta of every context lies within its limits; it never takes the value −2,147,483,648 (R131). -/
def State.DeltasOk (s : State) : Prop :=
  ∀ p, ∀ a : Axis, -2147483647 ≤ (s.view p).contexts[a].delta ∧ (s.view p).contexts[a].delta ≤ 2147483647

/-- The table keeps its laws: a slot is in an arm list exactly when it is ARMED on that axis, and then once (R48);
lists ascend by target (R49); a slot that is not ARMED has its target at its origin (R42). -/
structure State.TableOk (s : State) : Prop where
  listed : ∀ a n, n ∈ s.armList a ↔ ∃ t, s.slot n = some t ∧ t.state = .armed ∧ t.axis = a
  once : ∀ a, (s.armList a).Nodup
  sorted : ∀ a, (s.armList a).Pairwise (fun m n => s.targetOf m ≤ s.targetOf n)
  atOrigin : ∀ n t, s.slot n = some t → t.state ≠ .armed → t.target = t.origin

/-- The fields of every slot in use agree, and the target of an ARMED slot, with its origin and pitch, lies in the range
of its axis (R39, R40). -/
def State.SlotsOk (s : State) : Prop :=
  ∀ n t, s.slot n = some t → t.Agrees ∧
    (t.state = .armed → t.InRange (s.axis t.axis).config.modulus ∧
      ((s.axis t.axis).config.modulus ≠ 0 → 0 ≤ t.target.toInt ∧ t.target.toInt < (s.axis t.axis).config.modulus))

/-- The held count of every port is the number of slots it owns (R46). -/
def State.HeldOk (s : State) : Prop := ∀ p, s.heldBy p = allSlots.countP (s.ownsSlot p)

/-- No port holds more slots than its quota (R46). -/
def State.QuotasOk (s : State) : Prop := ∀ p, s.heldBy p ≤ (s.session p).quota

/-- A link unit keeps its laws (R164): PENDING exactly while a command is in flight, READY exactly while a response is
held, the discard mark only while PENDING, a held request unless EMPTY or marked, and an outgoing frame only in a
transaction (R165). -/
structure Link.Ok (l : Link) : Prop where
  pending : l.slot = .pending ↔ l.flight.isSome = true
  ready : l.slot = .ready ↔ l.heldResponse.isSome = true
  discard : l.discard = true → l.slot = .pending
  request : l.heldRequest.isSome = true ↔ l.slot ≠ .empty ∧ l.discard = false
  transaction : l.inTransaction = true → l.selectLow = true
  frame : l.inTransaction = false → l.outFrame = []

/-- Every link unit keeps its laws. -/
def State.LinksOk (s : State) : Prop := ∀ p, (s.link p).Ok

/-- Port `p` has an arbiter command on its way to its first step. -/
def State.AtArbiter (s : State) (p : Port) : Prop :=
  ∃ req c, (s.link p).flight = some ⟨req, .started⟩ ∧ req.command = some c ∧ c.atArbiter = true

/-- Port `p` has a CLOSE whose purge runs. -/
def State.Closing (s : State) (p : Port) : Prop := ∃ req, (s.link p).flight = some ⟨req, .closing⟩

/-- The arbiter keeps its laws (R179, R180): nobody waits while the grant is free; whoever waits or holds the grant has
an arbiter command, and every such command waits or holds the grant, not both; a CLOSE holds it until its purge is
closed. -/
structure State.ArbiterOk (s : State) : Prop where
  links : s.LinksOk
  free : s.grant = none → ∀ p, s.waiting.get p = false
  waits : ∀ p, s.waiting.get p = true → s.AtArbiter p ∧ s.grant ≠ some p
  holds : ∀ p, s.grant = some p → s.AtArbiter p ∨ s.Closing p
  served : ∀ p, s.AtArbiter p → s.waiting.get p = true ∨ s.grant = some p
  closing : ∀ p, s.Closing p → s.grant = some p

/-- What an ending session still owns: nothing in a block that has taken its step of the purge (R157). -/
structure State.GivenBack (s : State) (p : Port) (g : Purge) : Prop where
  slots : g.table = true → ∀ n, s.ownsSlot p n = false
  lines : g.lines = true → ∀ l, (s.line l).owner ≠ some p
  rights : g.rights = true → ∀ a, s.axisRight a ≠ some p
  masks : g.view = true → ∀ a : Axis, (s.view p).masks[a] = 0

/-- Who owns what (R40, R41, R94, R145): a line without an owner is INACTIVE with no pulse; a STAGED or ARMED slot names
only a line its owner owns; a CLOSED port owns no slot, no line and no axis right, and its masks are 0; while a session
is ending its commands do not run. -/
structure State.OwnershipOk (s : State) : Prop where
  sessions : ∀ p, (s.session p).Ok
  unowned : ∀ l, (s.line l).owner = none → (s.line l).state = .inactive ∧ (s.line l).timer = .stopped
  named : ∀ n t j, s.slot n = some t → t.state ≠ .retiring → t.job = some j → (s.line j.line).owner = some t.owner
  closed : ∀ p, (s.session p).state = .closed → s.GivenBack p ⟨false, true, true, true, true, true⟩
  ending : ∀ p g, (s.session p).purge = some g → s.GivenBack p g
  after : ∀ p g, (s.session p).purge = some g → g.lines = true → g.table = true
  held : ∀ p, s.ending p = true →
    ∀ f, (s.link p).flight = some f → f.stage = .held ∨ f.stage = .closing

/-- The records of axis `a` on their way to the table fit between table epoch `e` and axis epoch `f`: an arrival carries
the epoch in force where it stands, a reference the next one (R11, R30, R31). -/
def epochsFollow (a : Axis) : Half → List AxisRecord → Half → Prop
  | e, [], f => e = f
  | e, .arrival r :: l, f => r.axis = a ∧ r.epoch = e ∧ epochsFollow a e l f
  | e, .reference r :: l, f => r.axis = a ∧ r.epoch = e + 1 ∧ epochsFollow a (e + 1) l f

/-- Table epoch, records on their way and axis epoch agree on every axis, so an arrival the table takes carries the
table epoch (R52, R82). -/
def State.EpochsOk (s : State) : Prop := ∀ a, epochsFollow a (s.epochOf a) (s.inbox a) (s.axis a).epoch

end Sys2Proof.Machine
end

