-- ==== Sys2Proof/Certificates/Slice0/Obligations.lean ====
section
/-!
DEFINITION. The statements for the provers. Where a statement rests on the model's own choice, its docstring names the
log entry.
-/

open Sys2Proof Sys2Proof.Machine

/-! ### The queue of commands -/

/-- A step takes the command at the front of the queue and runs it on the rest; with none waiting the part idles
(log 2). -/
def Obligations.StepRunsFrontCommand : Prop :=
  (∀ (c : Instr) (rest : List Instr) (s : State), s.pending = c :: rest → step s = exec c { s with pending := rest }) ∧
  (∀ s : State, s.pending = [] → step s = .next s)

/-- Every command in every state answers a next state and leaves the queue alone, and the first step of a master's
command that is not due changes nothing (log 1). -/
def Obligations.EveryCommandAnswers : Prop :=
  (∀ (c : Instr) (s : State), ∃ t, exec c s = .next t ∧ t.pending = s.pending) ∧
  (∀ (c : Cmd) (p : Port) (makers : Makers) (s : State), s.runnable c p = none →
    exec (c.instr p makers) s = .next s)

/-! ### Reset and time -/

/-- DEVICE_RESET puts time base, axes, trigger table, lines, notification units and view unit to their reset values. -/
def Obligations.DeviceResetOfBlocks : Prop :=
  ∀ (source : ResetSource) (s : State), ∃ t, exec (.deviceReset source) s = .next t ∧ t.inReset = true ∧ t.tick = 0 ∧
    (∀ a, t.axis a =
      { config := { mode := .quadX4, reverse := false, filterLen := 4, modulus := 0, stallLimit := 0, preset := 0,
                    indexEdge := .rising, homeEdge := .rising }
        inputs := (t.axis a).inputs, position := 0, revolution := 0, epoch := 0, motion := .off,
        stallTimer := .stopped, doubt := false, refState := .idle }) ∧
    (∀ a i, ((t.axis a).inputs.get i).level = none ∧ ((t.axis a).inputs.get i).run = 0) ∧
    (∀ a, t.axisRight a = none) ∧
    (∀ n, t.slot n = none) ∧ (∀ a, t.armList a = []) ∧ (∀ p, t.heldBy p = 0) ∧ (∀ a, t.epochOf a = 0) ∧
    (∀ a, t.inbox a = []) ∧
    (∀ l, t.line l =
      { owner := none, polarity := .activeHigh, release := .float, state := .inactive, timer := .stopped } ∧
      (t.line l).pin = none) ∧
    (∀ p, t.note p = { intake := false, queue := [], nextSeq := 0, owed := [], ntf := .high }) ∧
    (∀ p, ∀ a : Axis, (t.view p).contexts[a] =
      { delta := 0, sat := false, baseTick := 0, rerefSince := false, doubtSeen := false } ∧ (t.view p).masks[a] = 0)

/-- DEVICE_RESET puts sessions, links and arbiter to their reset values; the transaction in progress gets no verdict, and
a select line left low begins none, under the reset and after its release. -/
def Obligations.DeviceResetOfSessionsAndLinks : Prop :=
  ∀ (source : ResetSource) (s : State), ∃ t, exec (.deviceReset source) s = .next t ∧
    (∀ p, t.session p = { state := .closed, purge := none, number := 0, keepalive := 0, timer := .stopped, quota := 0,
                          fresh := true, lost := false }) ∧
    t.unreserved = 96 ∧ t.grant = none ∧ (∀ p, t.waiting.get p = false) ∧ t.lastServed = .c ∧
    (∀ p, t.link p = { slot := .empty, discard := false, heldRequest := none, heldResponse := none, reject := .none,
                       rejectTag := 0, flight := none, selectLow := (s.link p).selectLow, inTransaction := false,
                       outFrame := [] }) ∧
    (∀ p k, t.dataOut p k = .highImpedance) ∧
    ∀ u, (u = t ∨ exec .resetRelease t = .next u) →
      (∀ p, u.frameBody p = [0x02, 0, 0, 0, 0, 0, 0, 0]) ∧
      (∀ p bits, verdictOf (wholeBytes bits) = .request →
        exec (.requestFrame p bits) u = .next (u.setLink p { u.link p with selectLow := false })) ∧
      (∀ p bits, verdictOf (wholeBytes bits) = .resync →
        exec (.resync p bits) u = .next (u.setLink p { u.link p with selectLow := false })) ∧
      (∀ p bits, verdictOf (wholeBytes bits) = .poll →
        exec (.poll p bits) u = .next (u.setLink p { u.link p with selectLow := false })) ∧
      (∀ p, (u.link p).selectLow = true → exec (.transactionStart p) u = .next u)

/-- The recorded cause follows the sources in force during the reset, and nothing but a reset changes it: a further
DEVICE_RESET under reset joins its source to the same reset, and one out of reset starts a new record (log 17). -/
def Obligations.ResetCauseFollowsSources : Prop :=
  (∀ (x : ResetSource) (l : List ResetSource) (s : State), s.inReset = false →
    ∃ t, runAll ((x :: l).map .deviceReset) s = .next t ∧ t.inReset = true ∧
      t.resetCause =
        if .powerOn ∈ x :: l then .powerOn else if .supplyLow ∈ x :: l then .supplyLow else .pin) ∧
  (∀ (c : Instr) (s t : State), (∀ source, c ≠ .deviceReset source) → exec c s = .next t →
    t.resetCause = s.resetCause)

/-- A due TICK adds one to the counter and moves every timer on by one tick; under reset the counter holds; and a timer
loaded with n ticks falls due at the n-th tick. When TICK is due is log 6 and log 7. -/
def Obligations.TickMovesCounterAndTimers : Prop :=
  (∀ s : State, s.inReset = false → 16 ≤ s.periods → (∀ a, (s.axis a).stallTimer ≠ .due) →
    (∀ l, (s.line l).timer ≠ .due) → (∀ p, s.keepaliveDue p = false) →
    ∃ t, exec .tick s = .next t ∧ t.tick = s.tick + 1 ∧ t.periods + 16 = s.periods ∧
      (∀ a, t.axis a = { s.axis a with stallTimer := (s.axis a).stallTimer.step }) ∧
      (∀ l, t.line l = { s.line l with timer := (s.line l).timer.step }) ∧
      (∀ p, t.session p = { s.session p with timer := (s.session p).timer.step }) ∧
      t.inReset = s.inReset ∧ t.resetCause = s.resetCause ∧ t.pins = s.pins ∧ t.unreserved = s.unreserved ∧
      SameTable s t ∧ SameNotes s t ∧ SameViews s t ∧ SameRights s t ∧ SameLinks s t ∧ SameArbiter s t) ∧
  (∀ s : State, s.inReset = true → exec .tick s = .next s) ∧
  (∀ s : State, exec .resetRelease s = .next { s with inReset := false }) ∧
  (∀ n k : Nat, k < n → (Timer.step^[k]) (Timer.load n) = .running (n - k)) ∧
  (∀ n : Nat, 0 < n → (Timer.step^[n]) (Timer.load n) = .due) ∧
  (∀ k : Nat, (Timer.step^[k]) (Timer.load 0) = .stopped)

/-! ### Filters and decoding -/

/-- SAMPLE moves every run length and settling count by its pin; a settling takes the level and makes no count; and an
accepted phase change makes no count until both phases have settled at an earlier sample. When SAMPLE is due is log 6
and log 7. -/
def Obligations.FiltersMeetSamples : Prop :=
  (∀ (pins : Vector AxisPins 4) (s : State), s.inReset = false → s.periods ≤ 16 →
    (∀ a, (s.axis a).outstanding = false) →
    ∃ t, exec (.sample pins) s = .next t ∧ t.periods = s.periods + 1 ∧ t.pins = pins ∧
      (∀ (a : Axis) (i : Input),
        (∀ l, ((s.axis a).inputs.get i).level = some l →
          ((t.axis a).inputs.get i).level = some l ∧
          ((t.axis a).inputs.get i).run = if levelOf pins[a] i = l then 0 else ((s.axis a).inputs.get i).run + 1) ∧
        (((s.axis a).inputs.get i).level = none →
          ((t.axis a).inputs.get i).level = none ∧ ((t.axis a).inputs.get i).run = ((s.axis a).inputs.get i).run ∧
          ((t.axis a).inputs.get i).candidate = levelOf pins[a] i ∧
          ((t.axis a).inputs.get i).streak =
            if levelOf pins[a] i = ((s.axis a).inputs.get i).candidate then ((s.axis a).inputs.get i).streak + 1 else 1)) ∧
      (∀ a, t.axis a = { s.axis a with inputs := (t.axis a).inputs }) ∧
      t.tick = s.tick ∧ t.inReset = s.inReset ∧ t.resetCause = s.resetCause ∧ SameTable s t ∧ SameLines s t ∧
      SameNotes s t ∧ SameViews s t ∧ SameSessions s t ∧ SameRights s t ∧ SameLinks s t ∧ SameArbiter s t) ∧
  (∀ (a : Axis) (i : Input) (s : State),
    ((s.axis a).inputs.get i).level = none → (s.axis a).config.filterLen ≤ ((s.axis a).inputs.get i).streak →
    exec (.inputSettling a i) s = .next (s.setAxis a { s.axis a with
      inputs := (s.axis a).inputs.set i { (s.axis a).inputs.get i with
        level := some ((s.axis a).inputs.get i).candidate, run := 0, streak := 0, settledNow := true } })) ∧
  (∀ (a : Axis) (makers : Makers) (s : State), (s.axis a).pairDue .phases = true →
    ((s.axis a).inputs.pha.level = none ∨ (s.axis a).inputs.phb.level = none ∨
      (s.axis a).inputs.pha.settledNow = true ∨ (s.axis a).inputs.phb.settledNow = true) →
    exec (.acceptedChange a .phases makers) s = .next (s.takePhaseLevels a))

/-- QUAD_X4: one accepted phase change makes one count arrival, up along the sequence 00, 10, 11, 01 and down against it,
swapped with reverse on; no accepted change makes none. -/
def Obligations.QuadratureCountsAlongTheSequence : Prop :=
  ∀ (a : Axis) (makers : Makers) (s : State) (x y : Bool),
    (s.axis a).config.mode = .quadX4 → (s.axis a).inputs.pha.level = some x → (s.axis a).inputs.phb.level = some y →
    (s.axis a).inputs.pha.settledNow = false → (s.axis a).inputs.phb.settledNow = false →
    ((s.axis a).inputs.pha.changeDue (s.axis a).config.filterLen = true →
      (s.axis a).inputs.phb.changeDue (s.axis a).config.filterLen = false →
      exec (.acceptedChange a .phases makers) s = .next ((s.takePhaseLevels a).countArrival a
        (CountDir.reversed (s.axis a).config.reverse (if (!x, y) = nextUp (x, y) then .up else .down)) makers) ∧
      ((s.takePhaseLevels a).axis a).inputs.pha = { (s.axis a).inputs.pha with level := some !x, run := 0 } ∧
      ((s.takePhaseLevels a).axis a).inputs.phb = (s.axis a).inputs.phb) ∧
    ((s.axis a).inputs.pha.changeDue (s.axis a).config.filterLen = false →
      (s.axis a).inputs.phb.changeDue (s.axis a).config.filterLen = true →
      exec (.acceptedChange a .phases makers) s = .next ((s.takePhaseLevels a).countArrival a
        (CountDir.reversed (s.axis a).config.reverse (if (x, !y) = nextUp (x, y) then .up else .down)) makers) ∧
      ((s.takePhaseLevels a).axis a).inputs.phb = { (s.axis a).inputs.phb with level := some !y, run := 0 } ∧
      ((s.takePhaseLevels a).axis a).inputs.pha = (s.axis a).inputs.pha) ∧
    ((s.axis a).inputs.pha.changeDue (s.axis a).config.filterLen = false →
      (s.axis a).inputs.phb.changeDue (s.axis a).config.filterLen = false →
      exec (.acceptedChange a .phases makers) s = .next s)

/-- QUAD_X4: both phases changing at one sample is a phase skip. It makes no count; it sets DOUBT, and if DOUBT was clear
DOUBT_SEEN in the three contexts and a DOUBT note. STEP_DIR knows no phase skip. -/
def Obligations.PhaseSkipMarksDoubt : Prop :=
  ∀ (a : Axis) (makers : Makers) (s : State) (x y : Bool),
    (s.axis a).inputs.pha.level = some x → (s.axis a).inputs.phb.level = some y →
    (s.axis a).inputs.pha.settledNow = false → (s.axis a).inputs.phb.settledNow = false →
    (s.axis a).inputs.pha.changeDue (s.axis a).config.filterLen = true →
    (s.axis a).inputs.phb.changeDue (s.axis a).config.filterLen = true →
    ((s.axis a).config.mode = .quadX4 →
      ∃ t, exec (.acceptedChange a .phases makers) s = .next t ∧
        t.axis a = { s.axis a with
          doubt := true
          inputs := { (s.axis a).inputs with
            pha := { (s.axis a).inputs.pha with level := some !x, run := 0 }
            phb := { (s.axis a).inputs.phb with level := some !y, run := 0 } } } ∧
        (∀ b, b ≠ a → t.axis b = s.axis b) ∧
        (∀ p, (t.view p).contexts[a] =
          if (s.axis a).doubt then (s.view p).contexts[a] else { (s.view p).contexts[a] with doubtSeen := true }) ∧
        (∀ p, ∀ b : Axis, b ≠ a → (t.view p).contexts[b] = (s.view p).contexts[b]) ∧
        (∀ p, (t.view p).masks = (s.view p).masks) ∧
        (∀ p, t.note p =
          if (s.axis a).doubt = false ∧ s.subscribed p a 3 = true then
            (s.note p).take ⟨.doubt, .axis a, none, a, (s.axis a).position, s.tick, (s.axis a).epoch, .none⟩
          else s.note p) ∧
        SameTime s t ∧ t.pins = s.pins ∧ SameTable s t ∧ SameLines s t ∧ SameSessions s t ∧ SameRights s t ∧
        SameLinks s t ∧ SameArbiter s t) ∧
    ((s.axis a).config.mode = .stepDir →
      ∃ t, exec (.acceptedChange a .phases makers) s = .next t ∧ (t.axis a).doubt = (s.axis a).doubt)

/-- STEP_DIR: PHA from low to high makes one count arrival, by the level of PHB after the accepted changes of the sample;
PHA from high to low, and PHB alone, make none. -/
def Obligations.StepDirCountsRisingSteps : Prop :=
  ∀ (a : Axis) (makers : Makers) (s : State) (x y y' : Bool),
    (s.axis a).config.mode = .stepDir → (s.axis a).inputs.pha.level = some x → (s.axis a).inputs.phb.level = some y →
    (s.axis a).inputs.pha.settledNow = false → (s.axis a).inputs.phb.settledNow = false →
    ((s.takePhaseLevels a).axis a).inputs.phb.level = some y' →
    ((s.axis a).inputs.pha.changeDue (s.axis a).config.filterLen = true → x = false →
      exec (.acceptedChange a .phases makers) s = .next ((s.takePhaseLevels a).countArrival a
        (match y', (s.axis a).config.reverse with
          | false, false | true, true => .up
          | false, true | true, false => .down) makers)) ∧
    (((s.axis a).inputs.pha.changeDue (s.axis a).config.filterLen = true ∧ x = true) ∨
      ((s.axis a).inputs.pha.changeDue (s.axis a).config.filterLen = false ∧
        (s.axis a).inputs.phb.changeDue (s.axis a).config.filterLen = true) →
      exec (.acceptedChange a .phases makers) s = .next (s.takePhaseLevels a))

/-! ### Counts, monitor and axis notes -/

/-- A count arrival moves position and revolution count, adds to the three deltas of the axis within their limits, and
goes to the table as a record behind those it has handed on before. -/
def Obligations.CountArrivalMovesAxisAndDeltas : Prop :=
  ∀ (s : State) (a : Axis) (dir : CountDir) (makers : Makers),
    ((s.countArrival a dir makers).axis a = { s.axis a with
      position := ((s.countArrival a dir makers).axis a).position
      revolution := ((s.countArrival a dir makers).axis a).revolution
      motion := ((s.countArrival a dir makers).axis a).motion
      stallTimer := ((s.countArrival a dir makers).axis a).stallTimer }) ∧
    (∀ b, b ≠ a → (s.countArrival a dir makers).axis b = s.axis b) ∧
    ((s.axis a).config.modulus = 0 →
      ((s.countArrival a dir makers).axis a).position =
        (match dir with
          | .up => (s.axis a).position + 1
          | .down => (s.axis a).position - 1) ∧
      ((s.countArrival a dir makers).axis a).revolution = (s.axis a).revolution) ∧
    (2 ≤ (s.axis a).config.modulus → (s.axis a).config.modulus ≤ 2147483647 → 0 ≤ (s.axis a).position.toInt →
      (s.axis a).position.toInt < (s.axis a).config.modulus →
      match dir with
      | .up =>
        if (s.axis a).position.toInt = (s.axis a).config.modulus - 1 then
          ((s.countArrival a dir makers).axis a).position = 0 ∧
          ((s.countArrival a dir makers).axis a).revolution = (s.axis a).revolution + 1
        else
          ((s.countArrival a dir makers).axis a).position.toInt = (s.axis a).position.toInt + 1 ∧
          ((s.countArrival a dir makers).axis a).revolution = (s.axis a).revolution
      | .down =>
        if (s.axis a).position.toInt = 0 then
          ((s.countArrival a dir makers).axis a).position.toInt = (s.axis a).config.modulus - 1 ∧
          ((s.countArrival a dir makers).axis a).revolution = (s.axis a).revolution - 1
        else
          ((s.countArrival a dir makers).axis a).position.toInt = (s.axis a).position.toInt - 1 ∧
          ((s.countArrival a dir makers).axis a).revolution = (s.axis a).revolution) ∧
    (∀ p, ((s.countArrival a dir makers).view p).contexts[a] =
      match dir with
      | .up =>
        if (s.view p).contexts[a].delta < 2147483647 then
          { (s.view p).contexts[a] with delta := (s.view p).contexts[a].delta + 1 }
        else { (s.view p).contexts[a] with sat := true }
      | .down =>
        if -2147483647 < (s.view p).contexts[a].delta then
          { (s.view p).contexts[a] with delta := (s.view p).contexts[a].delta - 1 }
        else { (s.view p).contexts[a] with sat := true }) ∧
    (∀ p, ∀ b : Axis, b ≠ a → ((s.countArrival a dir makers).view p).contexts[b] = (s.view p).contexts[b]) ∧
    (∀ p, ((s.countArrival a dir makers).view p).masks = (s.view p).masks) ∧
    (s.countArrival a dir .axisFirst).inbox a = s.inbox a ++
      [.arrival ⟨a, dir, ((s.countArrival a dir makers).axis a).position, (s.axis a).epoch, s.tick⟩]

/-- The motion monitor: a count arrival in STILL starts MOVING with a MOTION note, in MOVING it loads the stall timer
again, in OFF it does nothing; a stall-timer expiry goes to STILL with a STILL note. The MOTION note goes to each
subscribed port in the order its unit takes the makers: if one hears the table first, the table takes every record of the
axis, oldest first and the new one last, between the ports that hear the axis first and those that hear the table first
(log 5). -/
def Obligations.MotionMonitorFollowsItsTable : Prop :=
  (∀ (s : State) (a : Axis) (dir : CountDir),
    ((s.axis a).motion = .off →
      ((s.countArrival a dir .axisFirst).axis a).motion = .off ∧
      ((s.countArrival a dir .axisFirst).axis a).stallTimer = (s.axis a).stallTimer ∧
      SameNotes s (s.countArrival a dir .axisFirst)) ∧
    ((s.axis a).motion = .moving →
      ((s.countArrival a dir .axisFirst).axis a).motion = .moving ∧
      ((s.countArrival a dir .axisFirst).axis a).stallTimer = Timer.load ((s.axis a).config.stallLimit * 1000) ∧
      SameNotes s (s.countArrival a dir .axisFirst)) ∧
    ((s.axis a).motion = .still →
      ((s.countArrival a dir .axisFirst).axis a).motion = .moving ∧
      ((s.countArrival a dir .axisFirst).axis a).stallTimer = Timer.load ((s.axis a).config.stallLimit * 1000) ∧
      ∀ p, (s.countArrival a dir .axisFirst).note p =
        if s.subscribed p a 0 = true then
          (s.note p).take ⟨.motion, .axis a, none, a, ((s.countArrival a dir .axisFirst).axis a).position, s.tick,
            (s.axis a).epoch, .none⟩
        else s.note p) ∧
    ∀ makers, (s.countArrival a dir makers).axis a = (s.countArrival a dir .axisFirst).axis a) ∧
  (∀ (s moved early : State) (a : Axis) (dir : CountDir) (makers : Makers) (note : Option Report),
    note = (if (s.axis a).motion = .still then
        some ⟨.motion, .axis a, none, a, ((s.countArrival a dir .axisFirst).axis a).position, s.tick,
          (s.axis a).epoch, .none⟩
      else none) →
    moved = (s.countMoved a dir).setAxis a ((s.countArrival a dir .axisFirst).axis a) →
    early = moved.routeIn makers .axis note →
    moved.inbox a = s.inbox a ++
      [.arrival ⟨a, dir, ((s.countArrival a dir .axisFirst).axis a).position, (s.axis a).epoch, s.tick⟩] ∧
    SameNotes s moved ∧ SameLines s moved ∧ moved.slots = s.slots ∧ moved.armLists = s.armLists ∧
    (makers = .axisFirst → s.countArrival a dir makers = early) ∧
    (makers ≠ .axisFirst → s.countArrival a dir makers =
      ((moved.inbox a).foldl State.takeRecord (early.setInbox a [])).routeIn makers .table note)) ∧
  (∀ (s : State) (a : Axis), (s.axis a).stallTimer = .due →
    ∃ t, exec (.stallTimerExpiry a) s = .next t ∧
      t.axis a = { s.axis a with motion := .still, stallTimer := .stopped } ∧ (∀ b, b ≠ a → t.axis b = s.axis b) ∧
      (∀ p, t.note p =
        if s.subscribed p a 1 = true then
          (s.note p).take ⟨.still, .axis a, none, a, (s.axis a).position, s.tick, (s.axis a).epoch, .none⟩
        else s.note p) ∧
      SameTime s t ∧ t.pins = s.pins ∧ SameTable s t ∧ SameLines s t ∧ SameViews s t ∧ SameSessions s t ∧
      SameRights s t ∧ SameLinks s t ∧ SameArbiter s t)

/-- An axis note goes to the notification unit of each port whose session is OPEN and whose mask for the axis includes
its kind, and to no other; nothing else changes. Of one that is handed out in the order of the makers, each such port
takes it once, with those that hear the same maker first (log 5). -/
def Obligations.AxisNotesGoToSubscribers : Prop :=
  (∀ (s : State) (r : Report) (p : Port), (s.route r).note p =
    if (s.session p).state = .opened ∧
      ((r.kind = .motion ∧ (s.view p).masks[r.axis].getLsbD 0 = true) ∨
        (r.kind = .still ∧ (s.view p).masks[r.axis].getLsbD 1 = true) ∨
        (r.kind = .reref ∧ (s.view p).masks[r.axis].getLsbD 2 = true) ∨
        (r.kind = .doubt ∧ (s.view p).masks[r.axis].getLsbD 3 = true))
    then (s.note p).take r else s.note p) ∧
  (∀ (s : State) (r : Report), s.route r = { s with notes := (s.route r).notes }) ∧
  (∀ (s : State) (r : Report) (makers : Makers) (first : Maker) (p : Port),
    (s.routeIn makers first (some r)).note p =
      if (match p with
          | .a => makers.a
          | .b => makers.b
          | .c => makers.c) = first
      then (s.route r).note p else s.note p) ∧
  (∀ (s : State) (note : Option Report) (makers : Makers) (first : Maker), s.routeIn makers first none = s ∧
    s.routeIn makers first note = { s with notes := (s.routeIn makers first note).notes })

/-! ### References -/

/-- Index and home edges act on the reference unit by its state. -/
def Obligations.EdgesDriveTheReferenceState : Prop :=
  ∀ (a : Axis) (makers : Makers) (s : State) (home index : Bool), (s.axis a).pairDue .references = true →
    home = (s.axis a).inputs.home.isEdge (s.axis a).config.filterLen (s.axis a).config.homeEdge →
    index = (s.axis a).inputs.idx.isEdge (s.axis a).config.filterLen (s.axis a).config.indexEdge →
    exec (.acceptedChange a .references makers) s = .next (
      match (s.axis a).refState, home, index with
      | .waitHome false, true, _ =>
        ((s.takeReferenceLevels a).setRefState a .idle).edgeReference a .home (s.axis a).config.preset makers
      | .waitHome true, true, _ => (s.takeReferenceLevels a).setRefState a .waitIndex
      | .waitIndex, _, true =>
        ((s.takeReferenceLevels a).setRefState a .idle).edgeReference a .index (s.axis a).config.preset makers
      | .everyIndex, _, true =>
        (s.takeReferenceLevels a).edgeReference a .index (s.axis a).config.preset makers
      | _, _, _ => s.takeReferenceLevels a)

/-- A reference is one step of the axis unit: new position, revolution count 0, the next epoch, DOUBT clear, all else on
the axis as it was; REREF_SINCE in the three contexts; the record to the table; a REREF note to the subscribers. The note
goes to each subscribed port in the order its unit takes the makers (log 5); a command's reference, and one some port
hears from the table first, has the table take every record of the axis, oldest first and the new one last, between the
ports that hear the axis first and those that hear the table first. -/
def Obligations.ReferenceMovesTheAxis : Prop :=
  ∀ (s : State) (a : Axis) (reason : Reason) (v : Word) (makers : Makers),
    (∀ t, (t = s.edgeReference a reason v makers ∨ t = s.commandReference a reason v makers) →
      t.axis a = { s.axis a with position := v, revolution := 0, epoch := (s.axis a).epoch + 1, doubt := false } ∧
      (∀ b, b ≠ a → t.axis b = s.axis b) ∧ SameRights s t ∧
      (∀ p, (t.view p).contexts[a] = { (s.view p).contexts[a] with rerefSince := true }) ∧
      (∀ p, ∀ b : Axis, b ≠ a → (t.view p).contexts[b] = (s.view p).contexts[b])) ∧
    (s.edgeReference a reason v .axisFirst).inbox a = s.inbox a ++
      [.reference ⟨a, reason, (s.axis a).position, v, (s.axis a).epoch + 1, s.tick⟩] ∧
    (∀ p, (s.edgeReference a reason v .axisFirst).note p =
      if s.subscribed p a 2 = true then
        (s.note p).take ⟨.reref, .axis a, none, a, v, s.tick, (s.axis a).epoch + 1,
          .reref (s.axis a).position reason⟩
      else s.note p) ∧
    (∀ (moved early : State) (note : Report),
      note = ⟨.reref, .axis a, none, a, v, s.tick, (s.axis a).epoch + 1, .reref (s.axis a).position reason⟩ →
      moved = s.referenceMoved a reason v → early = moved.routeIn makers .axis (some note) →
      moved.inbox a = s.inbox a ++
        [.reference ⟨a, reason, (s.axis a).position, v, (s.axis a).epoch + 1, s.tick⟩] ∧
      SameNotes s moved ∧ SameLines s moved ∧ moved.slots = s.slots ∧ moved.armLists = s.armLists ∧
      (makers = .axisFirst → s.edgeReference a reason v makers = early) ∧
      (makers ≠ .axisFirst → s.edgeReference a reason v makers =
        ((moved.inbox a).foldl State.takeRecord (early.setInbox a [])).routeIn makers .table (some note)) ∧
      s.commandReference a reason v makers =
        ((moved.inbox a).foldl State.takeRecord (early.setInbox a [])).routeIn makers .table (some note))

/-! ### Axis commands -/

/-- An accepted AXIS_SET takes the whole configuration at once: F changed starts the filters again, the stall limit acts
on the monitor by its table, a changed modulus takes a CONFIG reference to 0, and nothing else moves. -/
def Obligations.AxisSetTakesTheConfiguration : Prop :=
  ∀ (p : Port) (s : State) (req : Request) (a : Axis) (c : AxisConfig) (w : AxisUnit),
    s.Runs .axisSet p req → req.params = c.params a → s.axisRight a = some p → c.stallLimit ≤ 65535 →
    (1 ≤ c.filterLen ∧ c.filterLen ≤ 32) → (c.modulus ≠ 1 ∧ c.modulus ≤ 2147483647) →
    (c.modulus ≠ 0 → 0 ≤ c.preset.toInt ∧ c.preset.toInt < c.modulus) →
    ((c.mode = (s.axis a).config.mode ∧ c.reverse = (s.axis a).config.reverse ∧
      c.modulus = (s.axis a).config.modulus) ∨ s.armList a = []) →
    (s.axis a).Ok →
    w = { s.axis a with
      config := c
      inputs :=
        if c.filterLen = (s.axis a).config.filterLen then (s.axis a).inputs
        else (s.axis a).inputs.map fun f => { f with run := 0, streak := 0 }
      motion :=
        if c.stallLimit = (s.axis a).config.stallLimit then (s.axis a).motion
        else if c.stallLimit = 0 then .off
        else if (s.axis a).motion = .off then .still else (s.axis a).motion
      stallTimer :=
        if c.stallLimit = (s.axis a).config.stallLimit then (s.axis a).stallTimer
        else if c.stallLimit = 0 then .stopped
        else if (s.axis a).motion = .moving then .running (c.stallLimit * 1000) else .stopped } →
    exec (.axisSet p) s = .next (
      (if c.modulus = (s.axis a).config.modulus then s.setAxis a w
        else (s.setAxis a w).commandReference a .config 0 .axisFirst).complete p req .ok [])

/-- AXIS_SET's refusals, in order: a code without meaning, a value out of range, a change of mode, reverse or modulus
while a slot is armed on the axis. -/
def Obligations.AxisSetRefusesInOrder : Prop :=
  ∀ (p : Port) (s : State) (req : Request) (a : Axis) (badCode outOfRange : Prop),
    s.Runs .axisSet p req → paramNat req.params 0 = a.val → s.axisRight a = some p →
    badCode = (1 < paramNat req.params 1 ∨ 1 < paramNat req.params 2 ∨ 1 < paramNat req.params 14 ∨
      1 < paramNat req.params 15) →
    outOfRange = (paramNat req.params 3 = 0 ∨ 32 < paramNat req.params 3 ∨ paramWord req.params 4 = 1 ∨
      2147483647 < (paramWord req.params 4).toNat ∨
      (paramWord req.params 4 ≠ 0 ∧ ((paramWord req.params 10).toInt < 0 ∨
        (paramWord req.params 4).toNat ≤ (paramWord req.params 10).toInt))) →
    (badCode → s.RefusedWith (.axisSet p) p req .badArg) ∧
    (¬badCode → outOfRange → s.RefusedWith (.axisSet p) p req .range) ∧
    (¬badCode → ¬outOfRange →
      (paramNat req.params 1 ≠ (s.axis a).config.mode.code.toNat ∨
        paramNat req.params 2 ≠ (yesNo (s.axis a).config.reverse).toNat ∨
        (paramWord req.params 4).toNat ≠ (s.axis a).config.modulus) →
      s.armList a ≠ [] → s.RefusedWith (.axisSet p) p req .inUse)

/-- AXIS_CLEAR_DOUBT clears DOUBT and nothing else; AXIS_REFARM sets the reference state by its kind and nothing else;
AXIS_READ returns the fields of the axis and changes nothing. -/
def Obligations.ClearDoubtRefarmAndReadAnAxis : Prop :=
  ∀ (p : Port) (s : State) (req : Request) (a : Axis),
    (s.Runs .axisClearDoubt p req → req.params = [byteOf a] → s.axisRight a = some p →
      exec (.axisClearDoubt p) s = .next ((s.setAxis a { s.axis a with doubt := false }).complete p req .ok [])) ∧
    (∀ k : Byte, s.Runs .axisRefarm p req → req.params = [byteOf a, k] → s.axisRight a = some p →
      (∀ r, (k, r) ∈ [((0 : Byte), RefState.idle), (1, .waitHome false), (2, .waitHome true), (3, .waitIndex),
          (4, .everyIndex)] →
        exec (.axisRefarm p) s = .next ((s.setAxis a { s.axis a with refState := r }).complete p req .ok [])) ∧
      (4 < k.toNat → s.RefusedWith (.axisRefarm p) p req .badArg)) ∧
    (s.Runs .axisRead p req → req.params = [byteOf a] →
      exec (.axisRead p) s = .next (s.complete p req .ok (
        [(s.axis a).config.mode.code, yesNo (s.axis a).config.reverse, byteOf (s.axis a).config.filterLen]
          ++ le32 (BitVec.ofNat 32 (s.axis a).config.modulus) ++ le16 (BitVec.ofNat 16 (s.axis a).config.stallLimit)
          ++ le32 (s.axis a).config.preset ++ [(s.axis a).config.indexEdge.code, (s.axis a).config.homeEdge.code]
          ++ le32 (s.axis a).position ++ le16 (s.axis a).revolution ++ le16 (s.axis a).epoch
          ++ [(s.axis a).motion.code, yesNo (s.axis a).doubt, (s.axis a).refState.code,
              yesNo (decide ((s.axis a).refState = .waitHome true)), portCode (s.axisRight a)])))

/-- An accepted AXIS_PRESET takes a reference with reason PRESET to the value given, answers the old position and the new
epoch, and the table has taken the reference within the command: with no earlier record on its way, every ARMED DROP slot
of the axis has gone to STAGED with a REREF_DISARM, and each port has its REREF note before or behind these as its unit
takes the makers; earlier records are taken first, as MATCH_COUNT_ARRIVAL and REFERENCE_RECORD take them. On a modular
axis a value outside 0 to M − 1 is refused. -/
def Obligations.AxisPresetTakesAReference : Prop :=
  (∀ (p : Port) (makers : Makers) (s : State) (req : Request) (a : Axis) (v : Word),
    s.Runs .axisPreset p req → req.params = byteOf a :: le32 v → s.axisRight a = some p →
    (((s.axis a).config.modulus = 0 ∨ (0 ≤ v.toInt ∧ v.toInt < (s.axis a).config.modulus)) →
      exec (.axisPreset p makers) s = .next ((s.commandReference a .preset v makers).complete p req .ok
        (le32 (s.axis a).position ++ le16 ((s.axis a).epoch + 1))) ∧
      (s.commandReference a .preset v makers).axis a =
        { s.axis a with position := v, revolution := 0, epoch := (s.axis a).epoch + 1, doubt := false } ∧
      (s.commandReference a .preset v makers).inbox a = [] ∧
      (s.commandReference a .preset v makers).epochOf a = (s.axis a).epoch + 1) ∧
    ((s.axis a).config.modulus ≠ 0 → (v.toInt < 0 ∨ (s.axis a).config.modulus ≤ v.toInt) →
      s.RefusedWith (.axisPreset p makers) p req .range)) ∧
  (∀ (makers : Makers) (s t : State) (a : Axis) (reason : Reason) (v : Word) (disarms rerefs : Port → List Report),
    s.inbox a = [] → s.TableOk → t = s.commandReference a reason v makers →
    (∀ q, disarms q = (s.armList a).filterMap fun n =>
      match s.slot n with
      | some u =>
        if u.bind = .drop ∧ u.owner = q then
          some (⟨.rerefDisarm, .slot n, some u.tag, a, v, s.tick, (s.axis a).epoch + 1, .none⟩ : Report)
        else none
      | none => none) →
    (∀ q, rerefs q = if s.subscribed q a 2 = true then
        [⟨.reref, .axis a, none, a, v, s.tick, (s.axis a).epoch + 1, .reref (s.axis a).position reason⟩]
      else []) →
    (∀ n, t.slot n = (s.slot n).map fun u =>
      if u.state = .armed ∧ u.axis = a ∧ u.bind = .drop then { u with state := .staged, target := u.origin } else u) ∧
    t.armList a = (s.armList a).filter (fun n => (s.slot n).any fun u => u.bind = .keep) ∧
    (∀ q, t.note q = (match makers.first q with
      | .axis => rerefs q ++ disarms q
      | .table => disarms q ++ rerefs q).foldl (fun x y => x.take y) (s.note q))) ∧
  (∀ (s : State) (a : Axis) (rest : List AxisRecord),
    (∀ r, s.inbox a = .arrival r :: rest →
      exec (.matchCountArrival a) s = .next ((s.setInbox a rest).takeRecord (.arrival r))) ∧
    (∀ r, s.inbox a = .reference r :: rest →
      exec (.referenceRecord a) s = .next ((s.setInbox a rest).takeRecord (.reference r))))

/-- The checks that come first: the axis number and the configuration right of the axis commands, the slot number and the
owner of the commands that name a slot, the line number of the line commands. -/
def Obligations.NumberAndOwnerChecksComeFirst : Prop :=
  ∀ (c : Cmd) (p : Port) (makers : Makers) (s : State) (req : Request), s.Runs c p req →
    (c ∈ [.axisSet, .axisClearDoubt, .axisRead, .axisRefarm, .axisPreset] →
      (3 < paramNat req.params 0 → s.RefusedWith (c.instr p makers) p req .range) ∧
      (∀ a : Axis, paramNat req.params 0 = a.val → c ≠ .axisRead → s.axisRight a ≠ some p →
        s.RefusedWith (c.instr p makers) p req .notClaimed)) ∧
    (c ∈ [.trigArm, .trigDisarm, .trigDelete, .trigRead] →
      (95 < paramNat req.params 0 → s.RefusedWith (c.instr p makers) p req .range) ∧
      (∀ n : SlotNo, paramNat req.params 0 = n.val → (∀ t, s.slot n = some t → t.owner ≠ p) →
        s.RefusedWith (c.instr p makers) p req .notOwner)) ∧
    (c ∈ [.lineClaim, .lineRelease, .lineDrive, .lineRead] →
      7 < paramNat req.params 0 → s.RefusedWith (c.instr p makers) p req .range)

/-! ### Trigger commands -/

/-- TRIG_DEFINE of an agreeing, in-range description takes the lowest-numbered FREE slot, STAGED with every field given;
a line not owned, and a held count at the quota, refuse it. -/
def Obligations.TrigDefineFillsTheLowestFreeSlot : Prop :=
  ∀ (p : Port) (s : State) (req : Request) (t : Trigger),
    s.Runs .trigDefine p req → req.params = t.params → t.Agrees → t.InRange (s.axis t.axis).config.modulus →
    t.state = .staged → t.owner = p → t.target = t.origin →
    (∀ r, t.rep = some r → r.firesLeft = r.firesTotal) →
    ((∃ j, t.job = some j ∧ (s.line j.line).owner ≠ some p) → s.RefusedWith (.trigDefine p) p req .notClaimed) ∧
    ((∀ j, t.job = some j → (s.line j.line).owner = some p) →
      (s.heldBy p = (s.session p).quota → s.RefusedWith (.trigDefine p) p req .noRoom) ∧
      (s.heldBy p < (s.session p).quota → ∀ n, s.slot n = none → (∀ m, m < n → s.slot m ≠ none) →
        exec (.trigDefine p) s = .next (((s.setSlot n (some t)).setHeld p (s.heldBy p + 1)).complete p req .ok
          [byteOf n, byteOf (s.heldBy p + 1)])))

/-- TRIG_DEFINE's consistency checks, then its range checks; a description that passes both is refused only for its
line or for want of room. -/
def Obligations.TrigDefineRefusesInOrder : Prop :=
  ∀ (p : Port) (s : State) (req : Request) (dir act line width total succ : Nat) (pitch origin : Word)
    (bad out : Prop),
    s.Runs .trigDefine p req → dir = paramNat req.params 7 → act = paramNat req.params 8 →
    line = paramNat req.params 9 → width = (paramHalf req.params 10).toNat → pitch = paramWord req.params 12 →
    total = (paramHalf req.params 16).toNat → succ = paramNat req.params 18 → origin = paramWord req.params 3 →
    bad = (2 < dir ∨ 4 < act ∨ 1 < paramNat req.params 19 ∨ 1 < paramNat req.params 20 ∨
      1 < paramNat req.params 21 ∨ (dir = 2 ∧ pitch ≠ 0) ∨ (dir = 0 ∧ pitch.toInt < 0) ∨
      (dir = 1 ∧ 0 < pitch.toInt) ∨ (act = 4 ∧ width = 0) ∨ (act ≠ 4 ∧ width ≠ 0) ∨ (act = 0 ∧ line ≠ 0xFF) ∨
      (act ≠ 0 ∧ line = 0xFF) ∨ (pitch = 0 ∧ total ≠ 0)) →
    out = (3 < paramNat req.params 0 ∨ (line ≠ 0xFF ∧ 7 < line) ∨ (succ ≠ 0xFF ∧ 95 < succ) ∨
      ∃ a : Axis, paramNat req.params 0 = a.val ∧ (s.axis a).config.modulus ≠ 0 ∧
        (origin.toInt < 0 ∨ (s.axis a).config.modulus ≤ origin.toInt ∨
          (pitch ≠ 0 ∧ (s.axis a).config.modulus ≤ pitch.toInt.natAbs))) →
    (bad → s.RefusedWith (.trigDefine p) p req .badArg) ∧
    (¬bad → out → s.RefusedWith (.trigDefine p) p req .range) ∧
    (¬bad → ¬out → s.RefusedWith (.trigDefine p) p req .notClaimed ∨ s.RefusedWith (.trigDefine p) p req .noRoom ∨
      ∃ t data, exec (.trigDefine p) s = .next (State.complete p req .ok data t))

/-- TRIG_ARM: not STAGED, then a wrong expected epoch, then out of range; otherwise one arming of the slot. -/
def Obligations.TrigArmArmsAtTheOrigin : Prop :=
  ∀ (p : Port) (s : State) (req : Request) (n : SlotNo) (t : Trigger) (given : Byte) (epoch : Half),
    s.Runs .trigArm p req → req.params = [byteOf n, given] ++ le16 epoch → s.slot n = some t → t.owner = p →
    (t.state ≠ .staged → s.RefusedWith (.trigArm p) p req .state) ∧
    (t.state = .staged → given ≠ 0 → epoch ≠ s.epochOf t.axis → s.RefusedWith (.trigArm p) p req .epoch) ∧
    (t.state = .staged → (given = 0 ∨ epoch = s.epochOf t.axis) →
      (¬t.InRange (s.axis t.axis).config.modulus → s.RefusedWith (.trigArm p) p req .range) ∧
      (t.InRange (s.axis t.axis).config.modulus →
        exec (.trigArm p) s = .next ((((s.setSlot n (some { t with
          state := .armed, target := t.origin, rep := t.rep.map fun r => { r with firesLeft := r.firesTotal } })).place
            t.axis n).complete p req .ok (le32 t.origin ++ le16 (s.epochOf t.axis))))))

/-- TRIG_DISARM of an ARMED slot takes it out of its list to STAGED at its origin; TRIG_DELETE gives a STAGED or ARMED
slot up, FREE or RETIRING as its owner's owed list decides; otherwise STATE. -/
def Obligations.TrigDisarmAndDelete : Prop :=
  ∀ (p : Port) (s : State) (req : Request) (n : SlotNo) (t : Trigger),
    req.params = [byteOf n] → s.slot n = some t → t.owner = p →
    (s.Runs .trigDisarm p req →
      (t.state ≠ .armed → s.RefusedWith (.trigDisarm p) p req .state) ∧
      (t.state = .armed →
        exec (.trigDisarm p) s = .next (((s.setArmList t.axis ((s.armList t.axis).filter (· ≠ n))).setSlot n
          (some { t with state := .staged, target := t.origin })).complete p req .ok []))) ∧
    (s.Runs .trigDelete p req →
      (t.state = .retiring → s.RefusedWith (.trigDelete p) p req .state) ∧
      (t.state ≠ .retiring → (∃ e ∈ (s.note p).owed, e.report.source = .slot n) →
        exec (.trigDelete p) s = .next (((s.setArmList t.axis ((s.armList t.axis).filter (· ≠ n))).setSlot n
          (some { t with state := .retiring, target := t.origin })).complete p req .ok [3, byteOf (s.heldBy p)])) ∧
      (t.state ≠ .retiring → (∀ e ∈ (s.note p).owed, e.report.source ≠ .slot n) →
        exec (.trigDelete p) s = .next ((((s.setArmList t.axis ((s.armList t.axis).filter (· ≠ n))).setSlot n
          none).setHeld p (s.heldBy p - 1)).complete p req .ok [0, byteOf (s.heldBy p - 1)])))

/-- TRIG_READ returns the whole record, absent fields as their markers; TRIG_LIST returns the length of the list and up
to 8 entries from the start index; neither changes anything. -/
def Obligations.TrigReadAndListShowTheTable : Prop :=
  ∀ (p : Port) (s : State) (req : Request),
    (∀ (n : SlotNo) (t : Trigger), s.Runs .trigRead p req → req.params = [byteOf n] → s.slot n = some t → t.owner = p →
      exec (.trigRead p) s = .next (s.complete p req .ok (
        (match t.state with
          | .staged => [1]
          | .armed => [2]
          | .retiring => [3])
        ++ le16 t.tag ++ [byteOf t.axis] ++ le32 t.origin ++ le32 t.target ++ [t.dir.code]
        ++ (match t.job with
          | none => [0, 0xFF, 0, 0]
          | some ⟨l, .set⟩ => [1, byteOf l, 0, 0]
          | some ⟨l, .clear⟩ => [2, byteOf l, 0, 0]
          | some ⟨l, .toggle⟩ => [3, byteOf l, 0, 0]
          | some ⟨l, .pulse w⟩ => [4, byteOf l] ++ le16 (BitVec.ofNat 16 w))
        ++ (match t.rep with
          | none => [0, 0, 0, 0, 0, 0, 0, 0]
          | some r => le32 r.pitch ++ le16 (BitVec.ofNat 16 r.firesTotal) ++ le16 (BitVec.ofNat 16 r.firesLeft))
        ++ [(match t.successor with
          | none => 0xFF
          | some m => byteOf m), yesNo t.retain, t.bind.code, yesNo t.notify]))) ∧
    (∀ (a start : Byte), s.Runs .trigList p req → req.params = [a, start] →
      ((3 < a.toNat ∨ 95 < start.toNat) → s.RefusedWith (.trigList p) p req .range) ∧
      (∀ b : Axis, a.toNat = b.val → start.toNat ≤ 95 →
        exec (.trigList p) s = .next (s.complete p req .ok (
          [byteOf (s.armList b).length, byteOf (min 8 ((s.armList b).length - start.toNat))]
          ++ (((s.armList b).drop start.toNat).take 8).flatMap fun n =>
            match s.slot n with
            | some t => [byteOf n, portCode (some t.owner)] ++ le32 t.target ++ [t.dir.code]
            | none => []))))

/-! ### The table -/

/-- A slot is placed behind every entry whose target is at most its own and before every greater one; a removal keeps
the order of the others. -/
def Obligations.PlacementGoesBehindEquals : Prop :=
  (∀ (s : State) (a : Axis) (n : SlotNo),
    (s.armList a).Pairwise (fun m k => s.targetOf m ≤ s.targetOf k) →
    ∃ l₁ l₂, s.armList a = l₁ ++ l₂ ∧ s.place a n = s.setArmList a (l₁ ++ n :: l₂) ∧
      (∀ m ∈ l₁, s.targetOf m ≤ s.targetOf n) ∧ (∀ m ∈ l₂, s.targetOf n < s.targetOf m)) ∧
  (∀ (s : State) (a : Axis) (n : SlotNo), ∃ l, s.unplace a n = s.setArmList a l ∧ l.Sublist (s.armList a) ∧
    ∀ m, m ∈ l ↔ m ∈ s.armList a ∧ m ≠ n)

/-- The table takes the oldest record of the axis, a count arrival: the entries whose target is its position and whose
direction is its own or EITHER fire one after another in list order, and no others. -/
def Obligations.MatchedSlotsFireInListOrder : Prop :=
  ∀ (a : Axis) (s : State) (r : Arrival) (rest : List AxisRecord), s.inbox a = .arrival r :: rest → r.axis = a →
    exec (.matchCountArrival a) s = .next (((s.armList a).filter fun n =>
      (s.slot n).any fun t => t.target = r.position ∧
        (t.dir = .either ∨ (t.dir = .up ∧ r.dir = .up) ∨ (t.dir = .down ∧ r.dir = .down))).foldl
      (fun u n => u.fire r n) (s.setInbox a rest))

/-- A fire acts on the slot's line, and on no other, by the slot's action; it hands its owner a FIRE if notify is yes,
then a CHAIN_MISS if the named successor cannot be armed, and hands no other port anything. -/
def Obligations.FireActsOnTheLineAndReports : Prop :=
  ∀ (s : State) (r : Arrival) (n : SlotNo) (t : Trigger), s.slot n = some t → t.state = .armed →
    (∀ l, (s.fire r n).line l =
      match t.job with
      | some j => if l = j.line then (s.line l).act j.act else s.line l
      | none => s.line l) ∧
    (∀ q, (s.fire r n).note q =
      if q = t.owner then
        ((if t.notify then
            [(⟨.fire, .slot n, some t.tag, t.axis, r.position, r.tick, r.epoch, .none⟩ : Report)] else []) ++
          (match t.successor with
            | some m =>
              if s.chainArms n t m then []
              else [⟨.chainMiss, .slot n, some t.tag, t.axis, r.position, r.tick, r.epoch, .successor m⟩]
            | none => [])).foldl (fun u x => u.take x) (s.note q)
      else s.note q)

/-- A slot that repeats stays ARMED at its target plus its pitch, wrapped into the range, with one fire less, and is placed
behind its equals before the successor of the same fire is; a slot that finishes goes to its origin, STAGED with retain
yes, otherwise FREE, or RETIRING if an owed entry names it. -/
def Obligations.FireSettlesItsOwnSlot : Prop :=
  ∀ (s : State) (r : Arrival) (n : SlotNo) (t : Trigger), s.slot n = some t → t.state = .armed →
    (∀ rep, t.rep = some rep → (rep.firesTotal = 0 ∨ 2 ≤ rep.firesLeft) →
      ∃ w, (s.fire r n).slot n = some { t with
          target := w
          rep := some { rep with firesLeft := if rep.firesTotal = 0 then rep.firesLeft else rep.firesLeft - 1 } } ∧
        (s.TableOk → ∃ l₁ l₂, (s.fire r n).armList t.axis = l₁ ++ n :: l₂ ∧
          (∀ k ∈ l₁, (s.fire r n).targetOf k ≤ w.toInt) ∧
          ∀ k ∈ l₂, w.toInt < (s.fire r n).targetOf k ∨ t.successor = some k) ∧
        (∀ q, (s.fire r n).heldBy q = s.heldBy q) ∧
        ((s.axis t.axis).config.modulus = 0 → w = t.target + rep.pitch) ∧
        ((s.axis t.axis).config.modulus ≠ 0 → (s.axis t.axis).config.modulus ≤ 2147483647 → 0 ≤ t.target.toInt →
          t.target.toInt < (s.axis t.axis).config.modulus →
          rep.pitch.toInt.natAbs < (s.axis t.axis).config.modulus →
          w.toInt = (t.target.toInt + rep.pitch.toInt) % (s.axis t.axis).config.modulus)) ∧
    (t.finishing = true → ¬(t.successor = some n ∧ s.chainArms n t n = true) →
      n ∉ (s.fire r n).armList t.axis ∧
      (t.retain = true →
        (s.fire r n).slot n = some { t.counted with state := .staged, target := t.origin } ∧
        ∀ q, (s.fire r n).heldBy q = s.heldBy q) ∧
      (t.retain = false → ((s.fire r n).note t.owner).owes n = true →
        (s.fire r n).slot n = some { t.counted with state := .retiring, target := t.origin } ∧
        ∀ q, (s.fire r n).heldBy q = s.heldBy q) ∧
      (t.retain = false → ((s.fire r n).note t.owner).owes n = false →
        (s.fire r n).slot n = none ∧
        ∀ q, (s.fire r n).heldBy q = if q = t.owner then s.heldBy q - 1 else s.heldBy q))

/-- A fire arms the successor it names if that is STAGED, of the same owner and in range, at its origin with its fires
counted from the start, and places it behind its equals; otherwise it leaves the named slot as it was; and it touches no
further slot and no block but table, lines and notification units. -/
def Obligations.FireArmsItsSuccessor : Prop :=
  ∀ (s : State) (r : Arrival) (n : SlotNo) (t : Trigger), s.slot n = some t → t.state = .armed →
    (∀ m u, t.successor = some m → s.chainArms n t m = true → s.slot m = some u →
      (s.fire r n).slot m = some { u with
        state := .armed, target := u.origin, rep := u.rep.map fun x => { x with firesLeft := x.firesTotal } } ∧
      (s.TableOk → ∃ l₁ l₂, (s.fire r n).armList u.axis = l₁ ++ m :: l₂ ∧
        (∀ k ∈ l₁, (s.fire r n).targetOf k ≤ u.origin.toInt) ∧
        ∀ k ∈ l₂, u.origin.toInt < (s.fire r n).targetOf k)) ∧
    (∀ m, m ≠ n → ¬(t.successor = some m ∧ s.chainArms n t m = true) → (s.fire r n).slot m = s.slot m) ∧
    (s.fire r n).tableEpoch = s.tableEpoch ∧ (s.fire r n).tableIn = s.tableIn ∧
    SameTime s (s.fire r n) ∧ SameAxes s (s.fire r n) ∧ SameViews s (s.fire r n) ∧ SameSessions s (s.fire r n) ∧
    SameRights s (s.fire r n) ∧ SameLinks s (s.fire r n) ∧ SameArbiter s (s.fire r n)

/-- The table takes the oldest record of the axis, a reference: the table epoch is set, every ARMED DROP slot of the axis
goes to STAGED at its origin with a REREF_DISARM note to its owner in list order, and KEEP slots stay. -/
def Obligations.ReferenceRecordDisarmsDropSlots : Prop :=
  ∀ (a : Axis) (s : State) (r : Reference) (rest : List AxisRecord),
    s.inbox a = .reference r :: rest → r.axis = a → s.TableOk →
    ∃ t, exec (.referenceRecord a) s = .next t ∧ t.inbox a = rest ∧ t.epochOf a = r.epoch ∧
      (∀ b, b ≠ a → t.inbox b = s.inbox b ∧ t.epochOf b = s.epochOf b ∧ t.armList b = s.armList b) ∧
      (∀ n, t.slot n =
        (s.slot n).map fun u =>
          if u.state = .armed ∧ u.axis = a ∧ u.bind = .drop then { u with state := .staged, target := u.origin }
          else u) ∧
      t.armList a = (s.armList a).filter (fun n => (s.slot n).any fun u => u.bind = .keep) ∧
      (∀ p, t.note p = ((s.armList a).filterMap fun n =>
          match s.slot n with
          | some u =>
            if u.bind = .drop ∧ u.owner = p then
              some (⟨.rerefDisarm, .slot n, some u.tag, a, r.newPosition, r.tick, r.epoch, .none⟩ : Report)
            else none
          | none => none).foldl (fun x y => x.take y) (s.note p)) ∧
      t.held = s.held ∧ SameTime s t ∧ SameAxes s t ∧ SameLines s t ∧ SameViews s t ∧ SameSessions s t ∧
      SameRights s t ∧ SameLinks s t ∧ SameArbiter s t

/-! ### Output lines -/

/-- The four line actions, the pin of a line by its record, and the pulse expiry. -/
def Obligations.LineActionsPinsAndExpiry : Prop :=
  (∀ (r : LineRec) (w : Nat), 1 ≤ w →
    r.act .set = { r with state := .active, timer := .stopped } ∧
    r.act .clear = { r with state := .inactive, timer := .stopped } ∧
    (r.state = .inactive → r.act .toggle = { r with state := .active, timer := .stopped }) ∧
    (r.state = .active → r.act .toggle = { r with state := .inactive, timer := .stopped }) ∧
    r.act (.pulse w) = { r with state := .active, timer := .running w }) ∧
  (∀ r : LineRec, r.owner.isSome = true →
    (r.polarity = .activeHigh → r.pin = some (if r.state = .active then .high else .low)) ∧
    (r.polarity = .activeLow → r.pin = some (if r.state = .active then .low else .high))) ∧
  (∀ r : LineRec, r.owner = none →
    (r.release = .low → r.pin = some .low) ∧ (r.release = .high → r.pin = some .high) ∧
    (r.release = .float → r.pin = none)) ∧
  (∀ (l : LineNo) (s : State), (s.line l).timer = .due →
    exec (.pulseExpiry l) s = .next (s.setLine l { s.line l with state := .inactive, timer := .stopped }))

/-- LINE_CLAIM and LINE_RELEASE: their refusals in order, and what an accepted one leaves on the line and its pin. -/
def Obligations.LineClaimAndRelease : Prop :=
  ∀ (p : Port) (s : State) (req : Request) (l : LineNo),
    (∀ pol rel : Byte, s.Runs .lineClaim p req → req.params = [byteOf l, pol, rel] →
      ((1 < pol.toNat ∨ 2 < rel.toNat) → s.RefusedWith (.lineClaim p) p req .badArg) ∧
      (pol.toNat ≤ 1 → rel.toNat ≤ 2 →
        (∀ q, q ≠ p → (s.line l).owner = some q → s.RefusedWith (.lineClaim p) p req .owned) ∧
        ((s.line l).owner = some p → s.RefusedWith (.lineClaim p) p req .state) ∧
        ((s.line l).owner = none → ∀ polarity release,
          (pol, polarity) ∈ [((0 : Byte), Polarity.activeHigh), (1, .activeLow)] →
          (rel, release) ∈ [((0 : Byte), Release.low), (1, .high), (2, .float)] →
          exec (.lineClaim p) s = .next
            ((s.setLine l ⟨some p, polarity, release, .inactive, .stopped⟩).complete p req .ok []) ∧
          LineRec.pin ⟨some p, polarity, release, .inactive, .stopped⟩ =
            some (match polarity with
              | .activeHigh => .low
              | .activeLow => .high)))) ∧
    (s.Runs .lineRelease p req → req.params = [byteOf l] →
      ((s.line l).owner ≠ some p → s.RefusedWith (.lineRelease p) p req .notClaimed) ∧
      ((s.line l).owner = some p →
        (∃ n t j, s.slot n = some t ∧ t.owner = p ∧ (t.state = .staged ∨ t.state = .armed) ∧ t.job = some j ∧
          j.line = l) → s.RefusedWith (.lineRelease p) p req .inUse) ∧
      ((s.line l).owner = some p →
        (∀ n t j, s.slot n = some t → t.owner = p → (t.state = .staged ∨ t.state = .armed) → t.job = some j →
          j.line ≠ l) →
        exec (.lineRelease p) s = .next ((s.setLine l { s.line l with
          owner := none, state := .inactive, timer := .stopped }).complete p req .ok []) ∧
        LineRec.pin { s.line l with owner := none, state := .inactive, timer := .stopped } =
          match (s.line l).release with
          | .low => some .low
          | .high => some .high
          | .float => none))

/-- LINE_DRIVE applies its action for the owner and answers the state and the ticks remaining after it; LINE_READ
answers the record of any line. That a timer whose expiry is not yet taken reads as 1 tick is log 8. -/
def Obligations.LineDriveAndRead : Prop :=
  ∀ (p : Port) (s : State) (req : Request) (l : LineNo),
    (∀ (act : Byte) (width : Half), s.Runs .lineDrive p req → req.params = [byteOf l, act] ++ le16 width →
      ((s.line l).owner ≠ some p → s.RefusedWith (.lineDrive p) p req .notClaimed) ∧
      ((s.line l).owner = some p →
        ((act = 0 ∨ 4 < act.toNat ∨ (act = 4 ∧ width = 0) ∨ (act ≠ 4 ∧ width ≠ 0)) →
          s.RefusedWith (.lineDrive p) p req .badArg) ∧
        (∀ x, (act, width, x) ∈ [((1 : Byte), (0 : Half), LineAction.set), (2, 0, .clear), (3, 0, .toggle)] →
          exec (.lineDrive p) s = .next ((s.setLine l ((s.line l).act x)).complete p req .ok
            [if ((s.line l).act x).state = .active then 1 else 0, 0, 0])) ∧
        (act = 4 → width ≠ 0 →
          exec (.lineDrive p) s = .next ((s.setLine l { s.line l with
            state := .active, timer := .running width.toNat }).complete p req .ok ([1] ++ le16 width))))) ∧
    (s.Runs .lineRead p req → req.params = [byteOf l] →
      exec (.lineRead p) s = .next (s.complete p req .ok (
        [portCode (s.line l).owner, (s.line l).polarity.code, (s.line l).release.code, (s.line l).state.code] ++
        le16 (match (s.line l).timer with
          | .stopped => 0
          | .running n => BitVec.ofNat 16 n
          | .due => 1))))

/-! ### Notification queues -/

/-- The entry rule: straight into the queue while it has room and nothing is owed; else into the entry of the same source
and kind, or a new one at the tail of the owed list; discarded while intake is OFF. -/
def Obligations.EntryRuleOfNotifications : Prop :=
  ∀ (u : NoteUnit) (r : Report),
    (u.intake = false → u.take r = u) ∧
    (u.intake = true → u.queue.length < 16 → u.owed = [] →
      u.take r = { u with queue := u.queue ++ [⟨u.nextSeq, 1, r⟩], nextSeq := u.nextSeq + 1, ntf := .low }) ∧
    (u.intake = true → (16 ≤ u.queue.length ∨ u.owed ≠ []) →
      (∀ l₁ e l₂, u.owed = l₁ ++ e :: l₂ → (e.report.source = r.source ∧ e.report.kind = r.kind) →
        (∀ x ∈ l₁, ¬(x.report.source = r.source ∧ x.report.kind = r.kind)) →
        u.take r = { u with owed := l₁ ++ ⟨min (e.count + 1) 65535, r⟩ :: l₂ }) ∧
      ((∀ x ∈ u.owed, ¬(x.report.source = r.source ∧ x.report.kind = r.kind)) →
        u.take r = { u with owed := u.owed ++ [⟨1, r⟩] }))

/-- NOTE_READ answers up to 4 notes from the head and changes nothing; NOTE_ACK removes the notes up to the one named,
moves owed entries into the room and frees each RETIRING slot whose last owed entry has moved. The 20 bytes of a note of
each kind are those of section 10.7. -/
def Obligations.NoteReadAndAck : Prop :=
  (∀ (seq count : Half) (n m : SlotNo) (a : Axis) (tag epoch : Half) (pos tick old : Word),
    (∀ kc ∈ [(NoteKind.fire, 0), (.rerefDisarm, 2)],
      Note.record ⟨seq, count.toNat, ⟨kc.1, .slot n, some tag, a, pos, tick, epoch, .none⟩⟩ =
        le16 seq ++ [BitVec.ofNat 8 (kc.2 + 8 * a.val)] ++ le16 count ++ [BitVec.ofNat 8 n.val] ++ le32 pos ++ le32 tick ++
          le16 epoch ++ (le16 tag ++ [0xFF, 0])) ∧
    Note.record ⟨seq, count.toNat, ⟨.chainMiss, .slot n, some tag, a, pos, tick, epoch, .successor m⟩⟩ =
      le16 seq ++ [BitVec.ofNat 8 (1 + 8 * a.val)] ++ le16 count ++ [BitVec.ofNat 8 n.val] ++ le32 pos ++ le32 tick ++
        le16 epoch ++ (le16 tag ++ [BitVec.ofNat 8 m.val, 0]) ∧
    (∀ kc ∈ [(NoteKind.motion, 3), (.still, 4), (.doubt, 6)],
      Note.record ⟨seq, count.toNat, ⟨kc.1, .axis a, none, a, pos, tick, epoch, .none⟩⟩ =
        le16 seq ++ [BitVec.ofNat 8 (kc.2 + 8 * a.val)] ++ le16 count ++ [BitVec.ofNat 8 a.val] ++ le32 pos ++ le32 tick ++
          le16 epoch ++ [0, 0, 0, 0]) ∧
    (∀ rc ∈ [(Reason.home, 0), (.index, 1), (.preset, 2), (.config, 3)],
      Note.record ⟨seq, count.toNat, ⟨.reref, .axis a, none, a, pos, tick, epoch, .reref old rc.1⟩⟩ =
        le16 seq ++ [BitVec.ofNat 8 (5 + 8 * a.val + 32 * rc.2)] ++ le16 count ++ [BitVec.ofNat 8 a.val] ++ le32 pos ++
          le32 tick ++ le16 epoch ++ le32 old)) ∧
  ∀ (p : Port) (s : State) (req : Request),
    (∀ max : Byte, s.Runs .noteRead p req → req.params = [max] →
      ((max = 0 ∨ 4 < max.toNat) → s.RefusedWith (.noteRead p) p req .range) ∧
      (1 ≤ max.toNat → max.toNat ≤ 4 →
        exec (.noteRead p) s = .next (s.complete p req .ok
          (((s.note p).queue.take max.toNat).flatMap Note.record)))) ∧
    (∀ q : Half, s.Runs .noteAck p req → req.params = le16 q →
      ((∀ n ∈ (s.note p).queue, n.seq ≠ q) → s.RefusedWith (.noteAck p) p req .seqUnknown) ∧
      (∀ l₁ x l₂ k moved, (s.note p).queue = l₁ ++ x :: l₂ → x.seq = q → (∀ n ∈ l₁, n.seq ≠ q) →
        k = min (16 - l₂.length) (s.note p).owed.length →
        moved = ((s.note p).owed.take k).zipIdx.map
          (fun (e, i) => (⟨(s.note p).nextSeq + BitVec.ofNat 16 i, e.count, e.report⟩ : Note)) →
        ∃ t, exec (.noteAck p) s = .next (t.complete p req .ok
            ([byteOf (l₁.length + 1), byteOf k, byteOf (l₂.length + k)] ++
              le16 (BitVec.ofNat 16 ((s.note p).owed.length - k)))) ∧
          t.note p = { s.note p with
            queue := l₂ ++ moved
            nextSeq := (s.note p).nextSeq + BitVec.ofNat 16 k
            owed := (s.note p).owed.drop k
            ntf := if l₂ ++ moved = [] then .high else .low } ∧
          (∀ n, t.slot n =
            match s.slot n with
            | some u =>
              if u.state = .retiring ∧ (∃ e ∈ (s.note p).owed.take k, e.report.source = .slot n) ∧
                  (∀ e ∈ (s.note p).owed.drop k, e.report.source ≠ .slot n)
              then none else some u
            | none => none) ∧
          (∀ o, t.heldBy o = s.heldBy o -
            (allSlots.filter fun n => s.ownsSlot o n && (t.slot n).isNone).length) ∧
          (∀ o, o ≠ p → t.note o = s.note o) ∧ t.armLists = s.armLists ∧ SameLines s t ∧ SameAxes s t))

/-! ### Snapshots and subscriptions -/

/-- An accepted SNAP sets out for the axes of its mask in axis order; each axis step adds the flag bits and the record of
one axis and resets the context; the last one makes the response (log 10). -/
def Obligations.SnapRunsByAxisSteps : Prop :=
  (∀ (p : Port) (s : State) (req : Request) (mask : Byte), s.Runs .snap p req → req.params = [mask] →
    ((mask = 0 ∨ 15 < mask.toNat) → s.RefusedWith (.snap p) p req .range) ∧
    (1 ≤ mask.toNat → mask.toNat ≤ 15 → ∃ todo : List Axis, todo.Pairwise (· < ·) ∧
      (∀ a : Axis, a ∈ todo ↔ mask.getLsbD a.val = true) ∧
      exec (.snap p) s = .next (s.setLink p { s.link p with flight := some ⟨req, .snapping ⟨todo, 0, []⟩⟩ }))) ∧
  (∀ (p : Port) (s : State) (req : Request) (a : Axis) (rest : List Axis) (flags : Half) (records : List Byte)
    (flags' : Half) (records' : List Byte) (c : Context) (s' : State),
    (s.link p).flight = some ⟨req, .snapping ⟨a :: rest, flags, records⟩⟩ → c = (s.view p).contexts[a] →
    flags' = flags ||| (BitVec.ofNat 16 ((if c.sat then 1 else 0) + (if c.rerefSince then 2 else 0) +
      (if c.doubtSeen then 4 else 0) + (if (s.axis a).doubt then 8 else 0)) <<< (4 * a.val)) →
    records' = records ++ (le32 (s.axis a).position ++ le16 (s.axis a).revolution ++ le16 (s.axis a).epoch ++
      le32 (BitVec.ofInt 32 c.delta) ++ le32 (s.tick - c.baseTick)) →
    s' = s.setView p { s.view p with contexts := (s.view p).contexts.set a ⟨0, false, s.tick, false, false⟩ } →
    exec (.snapAxisStep p) s = .next (
      if rest = [] then s'.complete p req .ok (le16 flags' ++ records')
      else s'.setLink p { s.link p with flight := some ⟨req, .snapping ⟨rest, flags', records'⟩⟩ }))

/-- SUBSCRIBE replaces the port's mask for one axis, answers the mask before, and makes no note; a device reset leaves
every mask at 0. -/
def Obligations.SubscribeReplacesOneMask : Prop :=
  (∀ (p : Port) (s : State) (req : Request) (a mask : Byte), s.Runs .subscribe p req → req.params = [a, mask] →
    ((3 < a.toNat ∨ 15 < mask.toNat) → s.RefusedWith (.subscribe p) p req .range) ∧
    (∀ b : Axis, a.toNat = b.val → mask.toNat ≤ 15 →
      exec (.subscribe p) s = .next ((s.setView p { s.view p with
        masks := (s.view p).masks.set b (mask.setWidth 4) }).complete p req .ok
          [(s.view p).masks[b].setWidth 8]))) ∧
  (∀ (source : ResetSource) (s : State), ∃ t, exec (.deviceReset source) s = .next t ∧
    ∀ p, ∀ a : Axis, (t.view p).masks[a] = 0)

/-! ### Sessions -/

/-- OPEN: its refusals in order; an accepted one opens the next session, reserves its quota, turns intake ON, resets the
view, and answers number, FRESH, SESSION_LOST and reset cause as they stood. -/
def Obligations.OpenStartsASession : Prop :=
  ∀ (p : Port) (s : State) (req : Request) (k : Half) (quota : Byte),
    s.Runs .openSession p req → req.params = le16 k ++ [quota] →
    ((s.session p).state = .opened → s.RefusedWith (.openSession p) p req .sessionOpen) ∧
    ((s.session p).state = .closed → 96 < quota.toNat → s.RefusedWith (.openSession p) p req .badArg) ∧
    ((s.session p).state = .closed → quota.toNat ≤ 96 → s.unreserved < quota.toNat →
      s.RefusedWith (.openSession p) p req .noRoom) ∧
    ((s.session p).state = .closed → quota.toNat ≤ 96 → quota.toNat ≤ s.unreserved →
      ∃ t, exec (.openSession p) s = .next (t.complete p req .ok (le16 ((s.session p).number + 1) ++
          [yesNo (s.session p).fresh, yesNo (s.session p).lost,
            match s.resetCause with
            | .powerOn => 0
            | .pin => 1
            | .supplyLow => 2])) ∧
        t.session p = { s.session p with
          state := .opened
          number := (s.session p).number + 1
          keepalive := k.toNat
          timer := if k = 0 then .stopped else .running (k.toNat * 1000)
          quota := quota.toNat
          fresh := false
          lost := false } ∧
        t.unreserved + quota.toNat = s.unreserved ∧ t.note p = { s.note p with intake := true, nextSeq := 0 } ∧
        (∀ a : Axis, (t.view p).contexts[a] = ⟨0, false, s.tick, false, false⟩ ∧ (t.view p).masks[a] = 0) ∧
        (∀ q, q ≠ p → t.session q = s.session q ∧ t.note q = s.note q ∧ t.view q = s.view q) ∧
        SameTime s t ∧ SameAxes s t ∧ SameTable s t ∧ SameLines s t ∧ SameRights s t ∧ SameLinks s t ∧
        SameArbiter s t)

/-- CLOSE and KEEPALIVE_EXPIRY begin the purge and stop the keepalive timer. An expiry drops a command that waits for its
first step, whether it has its grant or not (log 9) and the port's own commands among them (log 19), and is not taken
while a SNAP or a CLOSE of the port runs (log 8). -/
def Obligations.CloseAndExpiryBeginThePurge : Prop :=
  (∀ (p : Port) (s : State) (req : Request), s.Runs .closeSession p req →
    exec (.closeSession p) s = .next ((s.setSession p { s.session p with
      purge := some ⟨false, false, false, false, false, false⟩, timer := .stopped }).setLink p { s.link p with
        flight := some ⟨req, .closing⟩ })) ∧
  (∀ (p : Port) (s : State), s.ArbiterOk → (s.session p).timer = .due →
    (∀ req run, (s.link p).flight ≠ some ⟨req, .snapping run⟩) → (∀ req, (s.link p).flight ≠ some ⟨req, .closing⟩) →
    ∃ t, exec (.keepaliveExpiry p) s = .next t ∧
      t.session p = { s.session p with
        purge := some ⟨true, false, false, false, false, false⟩, timer := .stopped } ∧
      (∀ q, q ≠ p → t.session q = s.session q ∧ t.link q = s.link q) ∧
      ((s.link p).flight = none → t.link p = s.link p ∧ SameArbiter s t) ∧
      ((s.link p).flight ≠ none →
        t.link p = { s.link p with slot := .empty, heldRequest := none, discard := false, flight := none } ∧
        t.waiting.get p = false ∧ t.grant ≠ some p ∧ t.lastServed = s.lastServed) ∧
      t.unreserved = s.unreserved ∧ SameTime s t ∧ SameAxes s t ∧ SameTable s t ∧ SameLines s t ∧ SameNotes s t ∧
      SameViews s t ∧ SameRights s t) ∧
  (∀ (p : Port) (s : State), ((∃ req run, (s.link p).flight = some ⟨req, .snapping run⟩) ∨
    (∃ req, (s.link p).flight = some ⟨req, .closing⟩)) → exec (.keepaliveExpiry p) s = .next s)

/-- The five steps of a purge: each block gives back what the port held there and touches nothing else, the line unit
after the trigger table. -/
def Obligations.PurgeStepsGiveBack : Prop :=
  ∀ (p : Port) (s : State) (g : Purge), (s.session p).purge = some g →
    (g.table = false → ∃ t, exec (.tablePurge p) s = .next t ∧ PurgeAt p { g with table := true } s t ∧
      (∀ n, t.slot n = (s.slot n).bind fun u => if u.owner = p then none else some u) ∧
      (∀ a, t.armList a = (s.armList a).filter fun n => (s.slot n).all fun u => u.owner ≠ p) ∧
      t.heldBy p = 0 ∧ (∀ q, q ≠ p → t.heldBy q = s.heldBy q) ∧
      SameLines s t ∧ SameNotes s t ∧ SameViews s t ∧ SameRights s t) ∧
    (g.table = true → g.lines = false → ∃ t, exec (.linePurge p) s = .next t ∧ PurgeAt p { g with lines := true } s t ∧
      (∀ l, t.line l =
        if (s.line l).owner = some p then { s.line l with owner := none, state := .inactive, timer := .stopped }
        else s.line l) ∧
      SameTable s t ∧ SameNotes s t ∧ SameViews s t ∧ SameRights s t) ∧
    (g.table = false → exec (.linePurge p) s = .next s) ∧
    (g.notes = false → ∃ t, exec (.notePurge p) s = .next t ∧ PurgeAt p { g with notes := true } s t ∧
      t.note p = { intake := false, queue := [], nextSeq := 0, owed := [], ntf := .high } ∧
      (∀ q, q ≠ p → t.note q = s.note q) ∧
      SameTable s t ∧ SameLines s t ∧ SameViews s t ∧ SameRights s t) ∧
    (g.view = false → ∃ t, exec (.viewPurge p) s = .next t ∧ PurgeAt p { g with view := true } s t ∧
      (∀ a : Axis, (t.view p).contexts[a] = ⟨0, false, s.tick, false, false⟩ ∧ (t.view p).masks[a] = 0) ∧
      (∀ q, q ≠ p → t.view q = s.view q) ∧
      SameTable s t ∧ SameLines s t ∧ SameNotes s t ∧ SameRights s t) ∧
    (g.rights = false → ∃ t, exec (.axisRightsPurge p) s = .next t ∧ PurgeAt p { g with rights := true } s t ∧
      (∀ a, t.axisRight a = if s.axisRight a = some p then none else s.axisRight a) ∧
      SameTable s t ∧ SameLines s t ∧ SameNotes s t ∧ SameViews s t)

/-- The close of a purge, when every block has taken its step: the session is CLOSED with its number kept, its quota
goes back, SESSION_LOST is set if an expiry began it; then a CLOSE answers and a held command starts on its way. -/
def Obligations.PurgeCloseEndsTheSession : Prop :=
  ∀ (p : Port) (s u : State) (byExpiry : Bool),
    (s.session p).purge = some ⟨byExpiry, true, true, true, true, true⟩ →
    u = { s with unreserved := s.unreserved + (s.session p).quota : State }.setSession p { s.session p with
      state := .closed, purge := none, quota := 0, keepalive := 0, lost := (s.session p).lost || byExpiry } →
    ((s.link p).flight = none → exec (.purgeClose p) s = .next u) ∧
    (∀ req, (s.link p).flight = some ⟨req, .closing⟩ → exec (.purgeClose p) s = .next (u.complete p req .ok [])) ∧
    (∀ req, (s.link p).flight = some ⟨req, .held⟩ → exec (.purgeClose p) s = .next (u.startOnWay p req))

/-- STATUS answers who holds what and changes nothing; AXIS_CLAIM takes a free right; AXIS_RELEASE gives back an own
one. -/
def Obligations.StatusAndAxisRights : Prop :=
  ∀ (p : Port) (s : State) (req : Request),
    (s.Runs .status p req → exec (.status p) s = .next (s.complete p req .ok (
      [(s.session .a).state.code, (s.session .b).state.code, (s.session .c).state.code]
        ++ le16 (s.session .a).number ++ le16 (s.session .b).number ++ le16 (s.session .c).number
        ++ [byteOf s.unreserved, byteOf (allSlots.filter fun n => (s.slot n).isNone).length,
          portCode (s.line 0).owner, portCode (s.line 1).owner, portCode (s.line 2).owner, portCode (s.line 3).owner,
          portCode (s.line 4).owner, portCode (s.line 5).owner, portCode (s.line 6).owner, portCode (s.line 7).owner,
          portCode (s.axisRight 0), portCode (s.axisRight 1), portCode (s.axisRight 2), portCode (s.axisRight 3),
          byteOf (s.note p).queue.length]))) ∧
    (∀ a : Byte, s.Runs .axisClaim p req → req.params = [a] →
      (3 < a.toNat → s.RefusedWith (.axisClaim p) p req .range) ∧
      (∀ b : Axis, a.toNat = b.val →
        (∀ q, q ≠ p → s.axisRight b = some q → s.RefusedWith (.axisClaim p) p req .owned) ∧
        (s.axisRight b = some p → s.RefusedWith (.axisClaim p) p req .state) ∧
        (s.axisRight b = none →
          exec (.axisClaim p) s = .next ((s.setAxisRight b (some p)).complete p req .ok [])))) ∧
    (∀ a : Byte, s.Runs .axisRelease p req → req.params = [a] →
      (3 < a.toNat → s.RefusedWith (.axisRelease p) p req .range) ∧
      (∀ b : Axis, a.toNat = b.val →
        (s.axisRight b ≠ some p → s.RefusedWith (.axisRelease p) p req .notClaimed) ∧
        (s.axisRight b = some p →
          exec (.axisRelease p) s = .next ((s.setAxisRight b none).complete p req .ok []))))

/-! ### Port links -/

/-- At the start of a transaction the link unit builds the outgoing frame from the port's state and shifts it out, then
0xFF; while select is high data out is at high impedance. -/
def Obligations.TransactionStartBuildsTheFrame : Prop :=
  (∀ (p : Port) (s : State) (body resp : List Byte), (s.link p).selectLow = false → s.inReset = false →
    ((s.link p).slot = .empty → resp = [0, 0, 0]) →
    ((s.link p).slot = .pending → resp =
      [match (s.link p).heldRequest with
        | some req => req.tag
        | none => 0, 0, 0]) →
    ((s.link p).slot = .ready → ∃ r, (s.link p).heldResponse = some r ∧
      resp = [r.tag, r.result.code, byteOf r.data.length] ++ r.data) →
    body =
      [byteOf ((if (s.session p).state = .opened then 1 else 0) + (if (s.session p).fresh then 2 else 0) +
          (if (s.session p).lost then 4 else 0)),
        byteOf (s.note p).queue.length,
        match (s.link p).slot with
        | .empty => 0
        | .pending => 1
        | .ready => 2,
        match (s.link p).reject with
        | .none => 0
        | .length => 1
        | .crc => 2
        | .pending => 3,
        (s.link p).rejectTag] ++ resp →
    exec (.transactionStart p) s = .next (s.setLink p { s.link p with
      selectLow := true, inTransaction := true, outFrame := 0xA6 :: (body ++ [crc8 body]) })) ∧
  (∀ (p : Port) (s : State) (k : Nat), s.inReset = false →
    ((s.link p).inTransaction = true → k < (s.link p).outFrame.length →
      s.dataOut p k = .shifts ((s.link p).outFrame.getD k 0)) ∧
    ((s.link p).inTransaction = true → (s.link p).outFrame.length ≤ k → s.dataOut p k = .shifts 0xFF) ∧
    ((s.link p).selectLow = false → (s.link p).inTransaction = false → s.dataOut p k = .highImpedance))

/-- A poll leaves the link unit as it stands but for the end of the transaction; a resync clears REJECT, held request and
held response, and puts the discard mark on a command in flight. -/
def Obligations.PollAndResync : Prop :=
  ∀ (p : Port) (s : State) (bits : List Bool) (bytes : List Byte) (l : Link),
    (s.link p).inTransaction = true → bytes = wholeBytes bits →
    l = { s.link p with selectLow := false, inTransaction := false, outFrame := [] } →
    (bytes.head? ≠ some 0x5A → ¬(8 ≤ bytes.length ∧ ∀ b ∈ bytes, b = 0xFF) →
      exec (.poll p bits) s = .next (s.setLink p l)) ∧
    ((8 ≤ bytes.length ∧ ∀ b ∈ bytes, b = 0xFF) →
      (l.slot = .empty →
        exec (.resync p bits) s = .next (s.setLink p { l with reject := .none, rejectTag := 0, heldRequest := none })) ∧
      (l.slot = .ready →
        exec (.resync p bits) s = .next (s.setLink p { l with
          reject := .none, rejectTag := 0, heldRequest := none, slot := .empty, heldResponse := none })) ∧
      (l.slot = .pending →
        exec (.resync p bits) s = .next (s.setLink p { l with
          reject := .none, rejectTag := 0, heldRequest := none, discard := true })))

/-- The verdict on a request frame: LENGTH, then CRC; a valid frame reloads the keepalive timer and is rejected with
PENDING, replayed or accepted by the slot; an accepted command starts on its way unless the session is ending. -/
def Obligations.RequestFrameVerdict : Prop :=
  ∀ (p : Port) (s s₁ s₂ s₃ : State) (bits : List Bool) (bytes : List Byte) (len : Nat) (l : Link) (req : Request),
    (s.link p).inTransaction = true → bytes = wholeBytes bits → bytes.head? = some 0x5A →
    len = (bytes.getD 1 0).toNat →
    l = { s.link p with selectLow := false, inTransaction := false, outFrame := [] } →
    req = ⟨bytes.getD 2 0, bytes.getD 3 0, (bytes.drop 4).take len⟩ →
    s₁ = s.setLink p l →
    s₂ = (if (s.session p).state = .opened ∧ (s.session p).purge = none ∧ (s.session p).keepalive ≠ 0 then
        s₁.setSession p { s.session p with timer := .running ((s.session p).keepalive * 1000) }
      else s₁) →
    s₃ = s₂.setLink p { l with
      slot := .pending, discard := false, heldRequest := some req, heldResponse := none, reject := .none,
      rejectTag := 0, flight := some ⟨req, .held⟩ } →
    ((bytes.length < 2 ∨ 24 < len ∨ bytes.length < len + 5) →
      exec (.requestFrame p bits) s = .next (s.setLink p { l with reject := .length, rejectTag := bytes.getD 2 0 })) ∧
    (2 ≤ bytes.length → len ≤ 24 → len + 5 ≤ bytes.length →
      (crc8 ((bytes.drop 1).take (len + 3)) ≠ bytes.getD (len + 4) 0 →
        exec (.requestFrame p bits) s = .next (s.setLink p { l with reject := .crc, rejectTag := bytes.getD 2 0 })) ∧
      (crc8 ((bytes.drop 1).take (len + 3)) = bytes.getD (len + 4) 0 →
        (l.slot = .pending → exec (.requestFrame p bits) s = .next (s₂.setLink p { l with
          reject := .pending, rejectTag := req.tag })) ∧
        (l.slot = .ready → l.heldRequest = some req → exec (.requestFrame p bits) s = .next (s₂.setLink p { l with
          reject := .none, rejectTag := 0 })) ∧
        ((l.slot = .empty ∨ (l.slot = .ready ∧ l.heldRequest ≠ some req)) →
          exec (.requestFrame p bits) s = .next (
            if (s.session p).purge = none then s₃.startOnWay p req else s₃))))

/-- The last step of a command: its response becomes READY, or is discarded under the mark; the grant it holds goes to
the next waiting port after it. And the start: an unknown command is answered, an arbiter command is granted or waits,
any other may run. -/
def Obligations.CommandsStartAndEnd : Prop :=
  (∀ (p : Port) (s : State) (req : Request) (result : Result) (data : List Byte),
    ((s.link p).discard = false → (s.complete p req result data).link p = { s.link p with
      slot := .ready, heldResponse := some ⟨req.tag, result, data⟩, flight := none }) ∧
    ((s.link p).discard = true → (s.complete p req result data).link p = { s.link p with
      slot := .empty, discard := false, heldRequest := none, heldResponse := none, flight := none }) ∧
    SameOtherLinks p s (s.complete p req result data) ∧ SameBlocks s (s.complete p req result data) ∧
    (s.grant ≠ some p → SameArbiter s (s.complete p req result data)) ∧
    (s.grant = some p → (s.complete p req result data).lastServed = p ∧
      ((∀ q, s.waiting.get q = false) →
        (s.complete p req result data).grant = none ∧ ∀ q, (s.complete p req result data).waiting.get q = false) ∧
      (∀ l₁ q l₂,
        (match p with
          | .a => [.b, .c, .a]
          | .b => [.c, .a, .b]
          | .c => [.a, .b, .c]) = l₁ ++ q :: l₂ →
        s.waiting.get q = true → (∀ x ∈ l₁, s.waiting.get x = false) →
        (s.complete p req result data).grant = some q ∧
        ∀ x, (s.complete p req result data).waiting.get x = if x = q then false else s.waiting.get x))) ∧
  (∀ (p : Port) (s s' : State) (req : Request),
    s' = s.setLink p { s.link p with flight := some ⟨req, .started⟩ } →
    (req.command = none → s.startOnWay p req = s.complete p req .unknown []) ∧
    (∀ c, req.command = some c →
      (c ∈ [.nop, .noteRead, .noteAck, .snap, .subscribe] → s.startOnWay p req = s') ∧
      (c ∉ [.nop, .noteRead, .noteAck, .snap, .subscribe] →
        (s.grant = none → (∀ q, s.waiting.get q = false) → s.startOnWay p req = { s' with grant := some p }) ∧
        (s.grant ≠ none → s.startOnWay p req = { s' with waiting := s.waiting.set p true }))))

/-- Every known command makes the common checks first: NO_SESSION without a session, but for NOP, OPEN and STATUS, then
BAD_ARG for a wrong length. NOP then answers OK and changes nothing. -/
def Obligations.CommonChecksAndNop : Prop :=
  (∀ (c : Cmd) (p : Port) (makers : Makers) (s : State) (req : Request), s.runnable c p = some req →
    (c ∉ [.nop, .openSession, .status] → (s.session p).state = .closed →
      s.RefusedWith (c.instr p makers) p req .noSession) ∧
    ((c ∈ [.nop, .openSession, .status] ∨ (s.session p).state = .opened) →
      (∀ x ∈ commandTable, x.2.1 = c → req.params.length ≠ x.2.2 →
        s.RefusedWith (c.instr p makers) p req .badArg))) ∧
  (∀ (p : Port) (s : State) (req : Request), s.Runs .nop p req →
    exec (.nop p) s = .next (s.complete p req .ok [])) ∧
  (∀ (n : Nat) (c : Cmd), Cmd.ofNumber n = some c ↔ ∃ len, (n, c, len) ∈ commandTable)

/-- Bytes go over the wire most significant bit first, bits left over are discarded; the CRC-8 by its rule, with the
values the manual works out; the bytes it covers in an outgoing frame and in a request frame; fields of two and four
bytes least significant byte first, in both directions; and the codes of section 10.6 the part sends. -/
def Obligations.WireBytesAndCrc : Prop :=
  (∀ (bytes : List Byte) (left : List Bool), left.length < 8 → wholeBytes (bitsOfBytes bytes ++ left) = bytes) ∧
  crc8 [] = 0 ∧
  (∀ (bytes : List Byte) (b : Byte), crc8 (bytes ++ [b]) =
    ((fun r : Byte => if r.getLsbD 7 = true then (r <<< 1) ^^^ 0x07 else r <<< 1)^[8]) (crc8 bytes ^^^ b)) ∧
  crc8 [0x00, 0x01, 0x00] = 0x15 ∧ crc8 [0x01, 0x02, 0x40, 0x04] = 0x87 ∧
  crc8 [0x31, 0x32, 0x33, 0x34, 0x35, 0x36, 0x37, 0x38, 0x39] = 0xF4 ∧
  (∀ (p : Port) (s : State), s.outgoing p = 0xA6 :: (s.frameBody p ++ [crc8 (s.frameBody p)])) ∧
  (∀ (bytes : List Byte) (len : Nat), len = (bytes.getD 1 0).toNat → 2 ≤ bytes.length → len ≤ 24 →
    len + 5 ≤ bytes.length → (parseFrame bytes = .refused .crc (bytes.getD 2 0) ↔
      crc8 ((bytes.drop 1).take (len + 3)) ≠ bytes.getD (len + 4) 0)) ∧
  (∀ w : Half, le16 w = [BitVec.ofNat 8 w.toNat, BitVec.ofNat 8 (w.toNat / 256)]) ∧
  (∀ w : Word, le32 w = [BitVec.ofNat 8 w.toNat, BitVec.ofNat 8 (w.toNat / 256), BitVec.ofNat 8 (w.toNat / 65536),
    BitVec.ofNat 8 (w.toNat / 16777216)]) ∧
  (∀ (before rest : List Byte) (b₀ b₁ b₂ b₃ : Byte),
    paramNat (before ++ b₀ :: rest) before.length = b₀.toNat ∧
    (paramHalf (before ++ b₀ :: b₁ :: rest) before.length).toNat = b₀.toNat + 256 * b₁.toNat ∧
    (paramWord (before ++ b₀ :: b₁ :: b₂ :: b₃ :: rest) before.length).toNat =
      b₀.toNat + 256 * b₁.toNat + 65536 * b₂.toNat + 16777216 * b₃.toNat) ∧
  (∀ n : Nat, byteOf n = BitVec.ofNat 8 n) ∧ (yesNo false = 0 ∧ yesNo true = 1) ∧
  [Result.ok, .unknown, .noSession, .sessionOpen, .badArg, .range, .notOwner, .owned, .notClaimed, .noRoom, .inUse,
    .state, .epoch, .seqUnknown].map Result.code = [0, 1, 2, 3, 4, 5, 6, 7, 8, 9, 10, 11, 12, 13] ∧
  [Reject.none, .length, .crc, .pending].map Reject.code = [0, 1, 2, 3] ∧
  [PortSlot.empty, .pending, .ready].map PortSlot.code = [0, 1, 2] ∧
  [SessionState.closed, .opened].map SessionState.code = [0, 1] ∧
  [ResetCause.powerOn, .pin, .supplyLow].map ResetCause.code = [0, 1, 2] ∧
  [DecodeMode.quadX4, .stepDir].map DecodeMode.code = [0, 1] ∧ [Edge.rising, .falling].map Edge.code = [0, 1] ∧
  [MotionState.off, .still, .moving].map MotionState.code = [0, 1, 2] ∧
  [RefState.idle, .waitHome false, .waitHome true, .waitIndex, .everyIndex].map RefState.code = [0, 1, 1, 2, 3] ∧
  [none, some SlotState.staged, some .armed, some .retiring].map slotStateCode = [0, 1, 2, 3] ∧
  [SlotDir.up, .down, .either].map SlotDir.code = [0, 1, 2] ∧
  [LineAction.set, .clear, .toggle, .pulse 1].map LineAction.code = [1, 2, 3, 4] ∧
  [Bind.keep, .drop].map Bind.code = [0, 1] ∧ [Polarity.activeHigh, .activeLow].map Polarity.code = [0, 1] ∧
  [Release.low, .high, .float].map Release.code = [0, 1, 2] ∧ [LineState.inactive, .active].map LineState.code = [0, 1] ∧
  [NoteKind.fire, .chainMiss, .rerefDisarm, .motion, .still, .reref, .doubt].map NoteKind.num = [0, 1, 2, 3, 4, 5, 6] ∧
  [Reason.home, .index, .preset, .config].map Reason.num = [0, 1, 2, 3] ∧
  [none, some Port.a, some .b, some .c].map portCode = [0, 1, 2, 3]

/-! ### Frames -/

/-- The commands that only read, NOP, the checks of SNAP, the start of a transaction, and a transaction that ends as a poll
or a resync change no block, and no link of another port. That the row SNAP is the checks alone is log 10. -/
def Obligations.ReadingChangesNoBlock : Prop :=
  ∀ (p : Port) (bits : List Bool) (c : Instr) (s t : State),
    c ∈ [.nop p, .status p, .axisRead p, .trigRead p, .trigList p, .lineRead p, .noteRead p, .snap p,
      .transactionStart p, .poll p bits, .resync p bits] →
    exec c s = .next t → SameBlocks s t ∧ SameOtherLinks p s t

/-- Each group of commands stays in its blocks and leaves what other ports hold there as it is; an accepted change leaves
table and lines as well, unless a port's unit hears the table first (log 5). The row SNAP_AXIS_STEP is log 10. -/
def Obligations.CommandsStayInTheirBlocks : Prop :=
  ∀ (p : Port) (c : Instr) (s t : State), exec c s = .next t →
    (c ∈ [.axisClaim p, .axisRelease p] →
      SameTime s t ∧ SameAxes s t ∧ SameTable s t ∧ SameLines s t ∧ SameNotes s t ∧ SameViews s t ∧
      SameSessions s t ∧ SameOtherLinks p s t ∧
      ∀ a q, q ≠ p → (t.axisRight a = some q ↔ s.axisRight a = some q)) ∧
    (c ∈ [.axisClearDoubt p, .axisRefarm p] →
      SameTime s t ∧ SameTable s t ∧ SameLines s t ∧ SameNotes s t ∧ SameViews s t ∧ SameSessions s t ∧
      SameRights s t ∧ SameOtherLinks p s t ∧
      ∀ a, (t.axis a).position = (s.axis a).position ∧ (t.axis a).revolution = (s.axis a).revolution ∧
        (t.axis a).epoch = (s.axis a).epoch ∧ (t.axis a).config = (s.axis a).config) ∧
    ((c = .axisSet p ∨ ∃ makers, c = .axisPreset p makers) →
      SameTime s t ∧ t.pins = s.pins ∧ SameSessions s t ∧ SameRights s t ∧ SameOtherLinks p s t ∧
      ∀ q, (t.view q).masks = (s.view q).masks) ∧
    (c ∈ [.trigDefine p, .trigArm p, .trigDisarm p, .trigDelete p] →
      SameTime s t ∧ SameAxes s t ∧ SameLines s t ∧ SameNotes s t ∧ SameViews s t ∧ SameSessions s t ∧
      SameRights s t ∧ SameOtherLinks p s t ∧ t.tableEpoch = s.tableEpoch ∧ t.tableIn = s.tableIn ∧
      (∀ n u, s.slot n = some u → u.owner ≠ p → t.slot n = some u) ∧ ∀ q, q ≠ p → t.heldBy q = s.heldBy q) ∧
    (c ∈ [.lineClaim p, .lineRelease p, .lineDrive p] →
      SameTime s t ∧ SameAxes s t ∧ SameTable s t ∧ SameNotes s t ∧ SameViews s t ∧ SameSessions s t ∧
      SameRights s t ∧ SameOtherLinks p s t ∧ ∀ l q, q ≠ p → (s.line l).owner = some q → t.line l = s.line l) ∧
    (c = .noteAck p →
      SameTime s t ∧ SameAxes s t ∧ SameLines s t ∧ SameViews s t ∧ SameSessions s t ∧ SameRights s t ∧
      SameOtherLinks p s t ∧ t.armLists = s.armLists ∧ t.tableEpoch = s.tableEpoch ∧ t.tableIn = s.tableIn ∧
      ∀ q, q ≠ p → t.note q = s.note q) ∧
    (c ∈ [.subscribe p, .snapAxisStep p] →
      SameTime s t ∧ SameAxes s t ∧ SameTable s t ∧ SameLines s t ∧ SameNotes s t ∧ SameSessions s t ∧
      SameRights s t ∧ SameOtherLinks p s t ∧ ∀ q, q ≠ p → t.view q = s.view q) ∧
    (∀ a, c ∈ [.matchCountArrival a, .referenceRecord a] →
      SameTime s t ∧ SameAxes s t ∧ SameViews s t ∧ SameSessions s t ∧ SameRights s t ∧ SameLinks s t ∧
      SameArbiter s t) ∧
    (∀ l, c = .pulseExpiry l →
      SameTime s t ∧ SameAxes s t ∧ SameTable s t ∧ SameNotes s t ∧ SameViews s t ∧ SameSessions s t ∧
      SameRights s t ∧ SameLinks s t ∧ SameArbiter s t ∧ ∀ m, m ≠ l → t.line m = s.line m) ∧
    (∀ a inputs makers, c = .acceptedChange a inputs makers →
      SameTime s t ∧ t.pins = s.pins ∧ SameSessions s t ∧ SameRights s t ∧ SameLinks s t ∧ SameArbiter s t ∧
      (∀ b, b ≠ a → t.axis b = s.axis b ∧ t.inbox b = s.inbox b) ∧ (∀ q, (t.view q).masks = (s.view q).masks) ∧
      (makers = .axisFirst → t.slots = s.slots ∧ t.armLists = s.armLists ∧ t.held = s.held ∧
        t.tableEpoch = s.tableEpoch ∧ SameLines s t))

/-! ### Invariants -/

/-- Every step keeps the laws of the session records and the sum of the quotas. -/
def Obligations.StepKeepsSessions : Prop := ∀ s t : State, s.SessionsOk → step s = .next t → t.SessionsOk

/-- Every step keeps the laws of the notification units. -/
def Obligations.StepKeepsNotificationUnits : Prop := ∀ s t : State, s.NotesOk → step s = .next t → t.NotesOk

/-- Every step keeps the laws of the axes, and every delta within its limits. -/
def Obligations.StepKeepsAxes : Prop :=
  (∀ s t : State, s.AxesOk → step s = .next t → t.AxesOk) ∧
  (∀ s t : State, s.DeltasOk → step s = .next t → t.DeltasOk)

/-- Every step keeps the arm lists: exactly the ARMED slots of the axis, each once, by target ascending. With lawful axes
and lists it keeps the fields of every slot in agreement and the target of every ARMED slot in the range of its axis. -/
def Obligations.StepKeepsArmLists : Prop :=
  (∀ s t : State, s.TableOk → step s = .next t → t.TableOk) ∧
  (∀ s t : State, s.AxesOk → s.TableOk → s.SlotsOk → step s = .next t → t.SlotsOk)

/-- Every step keeps the held counts: the number of slots the port owns. With lawful sessions and ownership it keeps each
within the port's quota. -/
def Obligations.StepKeepsHeldCounts : Prop :=
  (∀ s t : State, s.HeldOk → step s = .next t → t.HeldOk) ∧
  (∀ s t : State, s.HeldOk → s.OwnershipOk → s.QuotasOk → step s = .next t → t.QuotasOk)

/-- Every step keeps the laws of the links and the arbiter. -/
def Obligations.StepKeepsLinksAndArbiter : Prop := ∀ s t : State, s.ArbiterOk → step s = .next t → t.ArbiterOk

/-- Every step keeps the laws of ownership. -/
def Obligations.StepKeepsOwnership : Prop := ∀ s t : State, s.OwnershipOk → step s = .next t → t.OwnershipOk

/-- Every step keeps table epoch, records on their way and axis epoch in agreement. -/
def Obligations.StepKeepsEpochs : Prop := ∀ s t : State, s.EpochsOk → step s = .next t → t.EpochsOk

/-- Every invariant holds right after reset (State.reset is log 3). -/
def Obligations.ResetMeetsEveryInvariant : Prop :=
  State.reset.SessionsOk ∧ State.reset.NotesOk ∧ State.reset.AxesOk ∧ State.reset.TableOk ∧ State.reset.HeldOk ∧
    State.reset.ArbiterOk ∧ State.reset.OwnershipOk ∧ State.reset.EpochsOk ∧ State.reset.DeltasOk ∧
    State.reset.SlotsOk ∧ State.reset.QuotasOk
end

