-- ==== Sys2Proof/Laws/State.lean ====
section
/-!
SUPPORT. One lemma per field and per accessor for every update of the state, so that no later proof unfolds an update.
-/
namespace Sys2Proof.Machine

/-! ### Things by port -/

theorem PerPort.get_set {α : Type} (x : PerPort α) (p q : Port) (v : α) :
    (x.set p v).get q = if q = p then v else x.get q := by
  cases p <;> cases q <;> rfl

@[simp] theorem PerPort.get_set_self {α : Type} (x : PerPort α) (p : Port) (v : α) : (x.set p v).get p = v := by
  cases p <;> rfl

theorem PerPort.get_set_ne {α : Type} (x : PerPort α) {p q : Port} (v : α) (h : q ≠ p) :
    (x.set p v).get q = x.get q := by
  simp [PerPort.get_set, h]

@[simp] theorem PerPort.get_all {α : Type} (v : α) (p : Port) : (PerPort.all v).get p = v := by
  cases p <;> rfl

/-- Two collections by port with the same things are the same. -/
theorem PerPort.ext_get {α : Type} {x y : PerPort α} (h : ∀ p, x.get p = y.get p) : x = y := by
  obtain ⟨xa, xb, xc⟩ := x
  obtain ⟨ya, yb, yc⟩ := y
  have ha := h .a
  have hb := h .b
  have hc := h .c
  simp only [PerPort.get] at ha hb hc
  subst ha hb hc
  rfl

namespace State

variable (s : State)

/-! ### setAxis -/

theorem setAxis_axis (a : Axis) (u : AxisUnit) (b : Axis) : (s.setAxis a u).axis b = if b = a then u else s.axis b := by
  simp only [setAxis, axis, Fin.getElem_fin, Vector.getElem_set, Fin.val_inj, eq_comm]

@[simp] theorem setAxis_axis_self (a : Axis) (u : AxisUnit) : (s.setAxis a u).axis a = u := by
  simp [setAxis_axis]

theorem setAxis_axis_ne (a : Axis) (u : AxisUnit) {b : Axis} (h : b ≠ a) : (s.setAxis a u).axis b = s.axis b := by
  simp [setAxis_axis, h]

@[simp] theorem setAxis_pending (a : Axis) (u : AxisUnit) : (s.setAxis a u).pending = s.pending := rfl
@[simp] theorem setAxis_tick (a : Axis) (u : AxisUnit) : (s.setAxis a u).tick = s.tick := rfl
@[simp] theorem setAxis_periods (a : Axis) (u : AxisUnit) : (s.setAxis a u).periods = s.periods := rfl
@[simp] theorem setAxis_inReset (a : Axis) (u : AxisUnit) : (s.setAxis a u).inReset = s.inReset := rfl
@[simp] theorem setAxis_resetCause (a : Axis) (u : AxisUnit) : (s.setAxis a u).resetCause = s.resetCause := rfl
@[simp] theorem setAxis_pins (a : Axis) (u : AxisUnit) : (s.setAxis a u).pins = s.pins := rfl
@[simp] theorem setAxis_slots (a : Axis) (u : AxisUnit) : (s.setAxis a u).slots = s.slots := rfl
@[simp] theorem setAxis_armLists (a : Axis) (u : AxisUnit) : (s.setAxis a u).armLists = s.armLists := rfl
@[simp] theorem setAxis_held (a : Axis) (u : AxisUnit) : (s.setAxis a u).held = s.held := rfl
@[simp] theorem setAxis_tableEpoch (a : Axis) (u : AxisUnit) : (s.setAxis a u).tableEpoch = s.tableEpoch := rfl
@[simp] theorem setAxis_tableIn (a : Axis) (u : AxisUnit) : (s.setAxis a u).tableIn = s.tableIn := rfl
@[simp] theorem setAxis_lines (a : Axis) (u : AxisUnit) : (s.setAxis a u).lines = s.lines := rfl
@[simp] theorem setAxis_notes (a : Axis) (u : AxisUnit) : (s.setAxis a u).notes = s.notes := rfl
@[simp] theorem setAxis_views (a : Axis) (u : AxisUnit) : (s.setAxis a u).views = s.views := rfl
@[simp] theorem setAxis_sessions (a : Axis) (u : AxisUnit) : (s.setAxis a u).sessions = s.sessions := rfl
@[simp] theorem setAxis_unreserved (a : Axis) (u : AxisUnit) : (s.setAxis a u).unreserved = s.unreserved := rfl
@[simp] theorem setAxis_axisRights (a : Axis) (u : AxisUnit) : (s.setAxis a u).axisRights = s.axisRights := rfl
@[simp] theorem setAxis_links (a : Axis) (u : AxisUnit) : (s.setAxis a u).links = s.links := rfl
@[simp] theorem setAxis_grant (a : Axis) (u : AxisUnit) : (s.setAxis a u).grant = s.grant := rfl
@[simp] theorem setAxis_waiting (a : Axis) (u : AxisUnit) : (s.setAxis a u).waiting = s.waiting := rfl
@[simp] theorem setAxis_lastServed (a : Axis) (u : AxisUnit) : (s.setAxis a u).lastServed = s.lastServed := rfl
@[simp] theorem setAxis_slot (a : Axis) (u : AxisUnit) (i : SlotNo) : (s.setAxis a u).slot i = s.slot i := rfl
@[simp] theorem setAxis_armList (a : Axis) (u : AxisUnit) (i : Axis) : (s.setAxis a u).armList i = s.armList i := rfl
@[simp] theorem setAxis_epochOf (a : Axis) (u : AxisUnit) (i : Axis) : (s.setAxis a u).epochOf i = s.epochOf i := rfl
@[simp] theorem setAxis_inbox (a : Axis) (u : AxisUnit) (i : Axis) : (s.setAxis a u).inbox i = s.inbox i := rfl
@[simp] theorem setAxis_line (a : Axis) (u : AxisUnit) (i : LineNo) : (s.setAxis a u).line i = s.line i := rfl
@[simp] theorem setAxis_axisRight (a : Axis) (u : AxisUnit) (i : Axis) : (s.setAxis a u).axisRight i = s.axisRight i := rfl
@[simp] theorem setAxis_note (a : Axis) (u : AxisUnit) (i : Port) : (s.setAxis a u).note i = s.note i := rfl
@[simp] theorem setAxis_view (a : Axis) (u : AxisUnit) (i : Port) : (s.setAxis a u).view i = s.view i := rfl
@[simp] theorem setAxis_session (a : Axis) (u : AxisUnit) (i : Port) : (s.setAxis a u).session i = s.session i := rfl
@[simp] theorem setAxis_link (a : Axis) (u : AxisUnit) (i : Port) : (s.setAxis a u).link i = s.link i := rfl
@[simp] theorem setAxis_heldBy (a : Axis) (u : AxisUnit) (i : Port) : (s.setAxis a u).heldBy i = s.heldBy i := rfl

/-! ### setSlot -/

theorem setSlot_slot (n : SlotNo) (t : Option Trigger) (m : SlotNo) : (s.setSlot n t).slot m = if m = n then t else s.slot m := by
  simp only [setSlot, slot, Fin.getElem_fin, Vector.getElem_set, Fin.val_inj, eq_comm]

@[simp] theorem setSlot_slot_self (n : SlotNo) (t : Option Trigger) : (s.setSlot n t).slot n = t := by
  simp [setSlot_slot]

theorem setSlot_slot_ne (n : SlotNo) (t : Option Trigger) {m : SlotNo} (h : m ≠ n) : (s.setSlot n t).slot m = s.slot m := by
  simp [setSlot_slot, h]

@[simp] theorem setSlot_pending (n : SlotNo) (t : Option Trigger) : (s.setSlot n t).pending = s.pending := rfl
@[simp] theorem setSlot_tick (n : SlotNo) (t : Option Trigger) : (s.setSlot n t).tick = s.tick := rfl
@[simp] theorem setSlot_periods (n : SlotNo) (t : Option Trigger) : (s.setSlot n t).periods = s.periods := rfl
@[simp] theorem setSlot_inReset (n : SlotNo) (t : Option Trigger) : (s.setSlot n t).inReset = s.inReset := rfl
@[simp] theorem setSlot_resetCause (n : SlotNo) (t : Option Trigger) : (s.setSlot n t).resetCause = s.resetCause := rfl
@[simp] theorem setSlot_pins (n : SlotNo) (t : Option Trigger) : (s.setSlot n t).pins = s.pins := rfl
@[simp] theorem setSlot_axes (n : SlotNo) (t : Option Trigger) : (s.setSlot n t).axes = s.axes := rfl
@[simp] theorem setSlot_armLists (n : SlotNo) (t : Option Trigger) : (s.setSlot n t).armLists = s.armLists := rfl
@[simp] theorem setSlot_held (n : SlotNo) (t : Option Trigger) : (s.setSlot n t).held = s.held := rfl
@[simp] theorem setSlot_tableEpoch (n : SlotNo) (t : Option Trigger) : (s.setSlot n t).tableEpoch = s.tableEpoch := rfl
@[simp] theorem setSlot_tableIn (n : SlotNo) (t : Option Trigger) : (s.setSlot n t).tableIn = s.tableIn := rfl
@[simp] theorem setSlot_lines (n : SlotNo) (t : Option Trigger) : (s.setSlot n t).lines = s.lines := rfl
@[simp] theorem setSlot_notes (n : SlotNo) (t : Option Trigger) : (s.setSlot n t).notes = s.notes := rfl
@[simp] theorem setSlot_views (n : SlotNo) (t : Option Trigger) : (s.setSlot n t).views = s.views := rfl
@[simp] theorem setSlot_sessions (n : SlotNo) (t : Option Trigger) : (s.setSlot n t).sessions = s.sessions := rfl
@[simp] theorem setSlot_unreserved (n : SlotNo) (t : Option Trigger) : (s.setSlot n t).unreserved = s.unreserved := rfl
@[simp] theorem setSlot_axisRights (n : SlotNo) (t : Option Trigger) : (s.setSlot n t).axisRights = s.axisRights := rfl
@[simp] theorem setSlot_links (n : SlotNo) (t : Option Trigger) : (s.setSlot n t).links = s.links := rfl
@[simp] theorem setSlot_grant (n : SlotNo) (t : Option Trigger) : (s.setSlot n t).grant = s.grant := rfl
@[simp] theorem setSlot_waiting (n : SlotNo) (t : Option Trigger) : (s.setSlot n t).waiting = s.waiting := rfl
@[simp] theorem setSlot_lastServed (n : SlotNo) (t : Option Trigger) : (s.setSlot n t).lastServed = s.lastServed := rfl
@[simp] theorem setSlot_axis (n : SlotNo) (t : Option Trigger) (i : Axis) : (s.setSlot n t).axis i = s.axis i := rfl
@[simp] theorem setSlot_armList (n : SlotNo) (t : Option Trigger) (i : Axis) : (s.setSlot n t).armList i = s.armList i := rfl
@[simp] theorem setSlot_epochOf (n : SlotNo) (t : Option Trigger) (i : Axis) : (s.setSlot n t).epochOf i = s.epochOf i := rfl
@[simp] theorem setSlot_inbox (n : SlotNo) (t : Option Trigger) (i : Axis) : (s.setSlot n t).inbox i = s.inbox i := rfl
@[simp] theorem setSlot_line (n : SlotNo) (t : Option Trigger) (i : LineNo) : (s.setSlot n t).line i = s.line i := rfl
@[simp] theorem setSlot_axisRight (n : SlotNo) (t : Option Trigger) (i : Axis) : (s.setSlot n t).axisRight i = s.axisRight i := rfl
@[simp] theorem setSlot_note (n : SlotNo) (t : Option Trigger) (i : Port) : (s.setSlot n t).note i = s.note i := rfl
@[simp] theorem setSlot_view (n : SlotNo) (t : Option Trigger) (i : Port) : (s.setSlot n t).view i = s.view i := rfl
@[simp] theorem setSlot_session (n : SlotNo) (t : Option Trigger) (i : Port) : (s.setSlot n t).session i = s.session i := rfl
@[simp] theorem setSlot_link (n : SlotNo) (t : Option Trigger) (i : Port) : (s.setSlot n t).link i = s.link i := rfl
@[simp] theorem setSlot_heldBy (n : SlotNo) (t : Option Trigger) (i : Port) : (s.setSlot n t).heldBy i = s.heldBy i := rfl

/-! ### setArmList -/

theorem setArmList_armList (a : Axis) (l : List SlotNo) (b : Axis) : (s.setArmList a l).armList b = if b = a then l else s.armList b := by
  simp only [setArmList, armList, Fin.getElem_fin, Vector.getElem_set, Fin.val_inj, eq_comm]

@[simp] theorem setArmList_armList_self (a : Axis) (l : List SlotNo) : (s.setArmList a l).armList a = l := by
  simp [setArmList_armList]

theorem setArmList_armList_ne (a : Axis) (l : List SlotNo) {b : Axis} (h : b ≠ a) : (s.setArmList a l).armList b = s.armList b := by
  simp [setArmList_armList, h]

@[simp] theorem setArmList_pending (a : Axis) (l : List SlotNo) : (s.setArmList a l).pending = s.pending := rfl
@[simp] theorem setArmList_tick (a : Axis) (l : List SlotNo) : (s.setArmList a l).tick = s.tick := rfl
@[simp] theorem setArmList_periods (a : Axis) (l : List SlotNo) : (s.setArmList a l).periods = s.periods := rfl
@[simp] theorem setArmList_inReset (a : Axis) (l : List SlotNo) : (s.setArmList a l).inReset = s.inReset := rfl
@[simp] theorem setArmList_resetCause (a : Axis) (l : List SlotNo) : (s.setArmList a l).resetCause = s.resetCause := rfl
@[simp] theorem setArmList_pins (a : Axis) (l : List SlotNo) : (s.setArmList a l).pins = s.pins := rfl
@[simp] theorem setArmList_axes (a : Axis) (l : List SlotNo) : (s.setArmList a l).axes = s.axes := rfl
@[simp] theorem setArmList_slots (a : Axis) (l : List SlotNo) : (s.setArmList a l).slots = s.slots := rfl
@[simp] theorem setArmList_held (a : Axis) (l : List SlotNo) : (s.setArmList a l).held = s.held := rfl
@[simp] theorem setArmList_tableEpoch (a : Axis) (l : List SlotNo) : (s.setArmList a l).tableEpoch = s.tableEpoch := rfl
@[simp] theorem setArmList_tableIn (a : Axis) (l : List SlotNo) : (s.setArmList a l).tableIn = s.tableIn := rfl
@[simp] theorem setArmList_lines (a : Axis) (l : List SlotNo) : (s.setArmList a l).lines = s.lines := rfl
@[simp] theorem setArmList_notes (a : Axis) (l : List SlotNo) : (s.setArmList a l).notes = s.notes := rfl
@[simp] theorem setArmList_views (a : Axis) (l : List SlotNo) : (s.setArmList a l).views = s.views := rfl
@[simp] theorem setArmList_sessions (a : Axis) (l : List SlotNo) : (s.setArmList a l).sessions = s.sessions := rfl
@[simp] theorem setArmList_unreserved (a : Axis) (l : List SlotNo) : (s.setArmList a l).unreserved = s.unreserved := rfl
@[simp] theorem setArmList_axisRights (a : Axis) (l : List SlotNo) : (s.setArmList a l).axisRights = s.axisRights := rfl
@[simp] theorem setArmList_links (a : Axis) (l : List SlotNo) : (s.setArmList a l).links = s.links := rfl
@[simp] theorem setArmList_grant (a : Axis) (l : List SlotNo) : (s.setArmList a l).grant = s.grant := rfl
@[simp] theorem setArmList_waiting (a : Axis) (l : List SlotNo) : (s.setArmList a l).waiting = s.waiting := rfl
@[simp] theorem setArmList_lastServed (a : Axis) (l : List SlotNo) : (s.setArmList a l).lastServed = s.lastServed := rfl
@[simp] theorem setArmList_axis (a : Axis) (l : List SlotNo) (i : Axis) : (s.setArmList a l).axis i = s.axis i := rfl
@[simp] theorem setArmList_slot (a : Axis) (l : List SlotNo) (i : SlotNo) : (s.setArmList a l).slot i = s.slot i := rfl
@[simp] theorem setArmList_epochOf (a : Axis) (l : List SlotNo) (i : Axis) : (s.setArmList a l).epochOf i = s.epochOf i := rfl
@[simp] theorem setArmList_inbox (a : Axis) (l : List SlotNo) (i : Axis) : (s.setArmList a l).inbox i = s.inbox i := rfl
@[simp] theorem setArmList_line (a : Axis) (l : List SlotNo) (i : LineNo) : (s.setArmList a l).line i = s.line i := rfl
@[simp] theorem setArmList_axisRight (a : Axis) (l : List SlotNo) (i : Axis) : (s.setArmList a l).axisRight i = s.axisRight i := rfl
@[simp] theorem setArmList_note (a : Axis) (l : List SlotNo) (i : Port) : (s.setArmList a l).note i = s.note i := rfl
@[simp] theorem setArmList_view (a : Axis) (l : List SlotNo) (i : Port) : (s.setArmList a l).view i = s.view i := rfl
@[simp] theorem setArmList_session (a : Axis) (l : List SlotNo) (i : Port) : (s.setArmList a l).session i = s.session i := rfl
@[simp] theorem setArmList_link (a : Axis) (l : List SlotNo) (i : Port) : (s.setArmList a l).link i = s.link i := rfl
@[simp] theorem setArmList_heldBy (a : Axis) (l : List SlotNo) (i : Port) : (s.setArmList a l).heldBy i = s.heldBy i := rfl

/-! ### setEpochOf -/

theorem setEpochOf_epochOf (a : Axis) (e : Half) (b : Axis) : (s.setEpochOf a e).epochOf b = if b = a then e else s.epochOf b := by
  simp only [setEpochOf, epochOf, Fin.getElem_fin, Vector.getElem_set, Fin.val_inj, eq_comm]

@[simp] theorem setEpochOf_epochOf_self (a : Axis) (e : Half) : (s.setEpochOf a e).epochOf a = e := by
  simp [setEpochOf_epochOf]

theorem setEpochOf_epochOf_ne (a : Axis) (e : Half) {b : Axis} (h : b ≠ a) : (s.setEpochOf a e).epochOf b = s.epochOf b := by
  simp [setEpochOf_epochOf, h]

@[simp] theorem setEpochOf_pending (a : Axis) (e : Half) : (s.setEpochOf a e).pending = s.pending := rfl
@[simp] theorem setEpochOf_tick (a : Axis) (e : Half) : (s.setEpochOf a e).tick = s.tick := rfl
@[simp] theorem setEpochOf_periods (a : Axis) (e : Half) : (s.setEpochOf a e).periods = s.periods := rfl
@[simp] theorem setEpochOf_inReset (a : Axis) (e : Half) : (s.setEpochOf a e).inReset = s.inReset := rfl
@[simp] theorem setEpochOf_resetCause (a : Axis) (e : Half) : (s.setEpochOf a e).resetCause = s.resetCause := rfl
@[simp] theorem setEpochOf_pins (a : Axis) (e : Half) : (s.setEpochOf a e).pins = s.pins := rfl
@[simp] theorem setEpochOf_axes (a : Axis) (e : Half) : (s.setEpochOf a e).axes = s.axes := rfl
@[simp] theorem setEpochOf_slots (a : Axis) (e : Half) : (s.setEpochOf a e).slots = s.slots := rfl
@[simp] theorem setEpochOf_armLists (a : Axis) (e : Half) : (s.setEpochOf a e).armLists = s.armLists := rfl
@[simp] theorem setEpochOf_held (a : Axis) (e : Half) : (s.setEpochOf a e).held = s.held := rfl
@[simp] theorem setEpochOf_tableIn (a : Axis) (e : Half) : (s.setEpochOf a e).tableIn = s.tableIn := rfl
@[simp] theorem setEpochOf_lines (a : Axis) (e : Half) : (s.setEpochOf a e).lines = s.lines := rfl
@[simp] theorem setEpochOf_notes (a : Axis) (e : Half) : (s.setEpochOf a e).notes = s.notes := rfl
@[simp] theorem setEpochOf_views (a : Axis) (e : Half) : (s.setEpochOf a e).views = s.views := rfl
@[simp] theorem setEpochOf_sessions (a : Axis) (e : Half) : (s.setEpochOf a e).sessions = s.sessions := rfl
@[simp] theorem setEpochOf_unreserved (a : Axis) (e : Half) : (s.setEpochOf a e).unreserved = s.unreserved := rfl
@[simp] theorem setEpochOf_axisRights (a : Axis) (e : Half) : (s.setEpochOf a e).axisRights = s.axisRights := rfl
@[simp] theorem setEpochOf_links (a : Axis) (e : Half) : (s.setEpochOf a e).links = s.links := rfl
@[simp] theorem setEpochOf_grant (a : Axis) (e : Half) : (s.setEpochOf a e).grant = s.grant := rfl
@[simp] theorem setEpochOf_waiting (a : Axis) (e : Half) : (s.setEpochOf a e).waiting = s.waiting := rfl
@[simp] theorem setEpochOf_lastServed (a : Axis) (e : Half) : (s.setEpochOf a e).lastServed = s.lastServed := rfl
@[simp] theorem setEpochOf_axis (a : Axis) (e : Half) (i : Axis) : (s.setEpochOf a e).axis i = s.axis i := rfl
@[simp] theorem setEpochOf_slot (a : Axis) (e : Half) (i : SlotNo) : (s.setEpochOf a e).slot i = s.slot i := rfl
@[simp] theorem setEpochOf_armList (a : Axis) (e : Half) (i : Axis) : (s.setEpochOf a e).armList i = s.armList i := rfl
@[simp] theorem setEpochOf_inbox (a : Axis) (e : Half) (i : Axis) : (s.setEpochOf a e).inbox i = s.inbox i := rfl
@[simp] theorem setEpochOf_line (a : Axis) (e : Half) (i : LineNo) : (s.setEpochOf a e).line i = s.line i := rfl
@[simp] theorem setEpochOf_axisRight (a : Axis) (e : Half) (i : Axis) : (s.setEpochOf a e).axisRight i = s.axisRight i := rfl
@[simp] theorem setEpochOf_note (a : Axis) (e : Half) (i : Port) : (s.setEpochOf a e).note i = s.note i := rfl
@[simp] theorem setEpochOf_view (a : Axis) (e : Half) (i : Port) : (s.setEpochOf a e).view i = s.view i := rfl
@[simp] theorem setEpochOf_session (a : Axis) (e : Half) (i : Port) : (s.setEpochOf a e).session i = s.session i := rfl
@[simp] theorem setEpochOf_link (a : Axis) (e : Half) (i : Port) : (s.setEpochOf a e).link i = s.link i := rfl
@[simp] theorem setEpochOf_heldBy (a : Axis) (e : Half) (i : Port) : (s.setEpochOf a e).heldBy i = s.heldBy i := rfl

/-! ### setInbox -/

theorem setInbox_inbox (a : Axis) (l : List AxisRecord) (b : Axis) : (s.setInbox a l).inbox b = if b = a then l else s.inbox b := by
  simp only [setInbox, inbox, Fin.getElem_fin, Vector.getElem_set, Fin.val_inj, eq_comm]

@[simp] theorem setInbox_inbox_self (a : Axis) (l : List AxisRecord) : (s.setInbox a l).inbox a = l := by
  simp [setInbox_inbox]

theorem setInbox_inbox_ne (a : Axis) (l : List AxisRecord) {b : Axis} (h : b ≠ a) : (s.setInbox a l).inbox b = s.inbox b := by
  simp [setInbox_inbox, h]

@[simp] theorem setInbox_pending (a : Axis) (l : List AxisRecord) : (s.setInbox a l).pending = s.pending := rfl
@[simp] theorem setInbox_tick (a : Axis) (l : List AxisRecord) : (s.setInbox a l).tick = s.tick := rfl
@[simp] theorem setInbox_periods (a : Axis) (l : List AxisRecord) : (s.setInbox a l).periods = s.periods := rfl
@[simp] theorem setInbox_inReset (a : Axis) (l : List AxisRecord) : (s.setInbox a l).inReset = s.inReset := rfl
@[simp] theorem setInbox_resetCause (a : Axis) (l : List AxisRecord) : (s.setInbox a l).resetCause = s.resetCause := rfl
@[simp] theorem setInbox_pins (a : Axis) (l : List AxisRecord) : (s.setInbox a l).pins = s.pins := rfl
@[simp] theorem setInbox_axes (a : Axis) (l : List AxisRecord) : (s.setInbox a l).axes = s.axes := rfl
@[simp] theorem setInbox_slots (a : Axis) (l : List AxisRecord) : (s.setInbox a l).slots = s.slots := rfl
@[simp] theorem setInbox_armLists (a : Axis) (l : List AxisRecord) : (s.setInbox a l).armLists = s.armLists := rfl
@[simp] theorem setInbox_held (a : Axis) (l : List AxisRecord) : (s.setInbox a l).held = s.held := rfl
@[simp] theorem setInbox_tableEpoch (a : Axis) (l : List AxisRecord) : (s.setInbox a l).tableEpoch = s.tableEpoch := rfl
@[simp] theorem setInbox_lines (a : Axis) (l : List AxisRecord) : (s.setInbox a l).lines = s.lines := rfl
@[simp] theorem setInbox_notes (a : Axis) (l : List AxisRecord) : (s.setInbox a l).notes = s.notes := rfl
@[simp] theorem setInbox_views (a : Axis) (l : List AxisRecord) : (s.setInbox a l).views = s.views := rfl
@[simp] theorem setInbox_sessions (a : Axis) (l : List AxisRecord) : (s.setInbox a l).sessions = s.sessions := rfl
@[simp] theorem setInbox_unreserved (a : Axis) (l : List AxisRecord) : (s.setInbox a l).unreserved = s.unreserved := rfl
@[simp] theorem setInbox_axisRights (a : Axis) (l : List AxisRecord) : (s.setInbox a l).axisRights = s.axisRights := rfl
@[simp] theorem setInbox_links (a : Axis) (l : List AxisRecord) : (s.setInbox a l).links = s.links := rfl
@[simp] theorem setInbox_grant (a : Axis) (l : List AxisRecord) : (s.setInbox a l).grant = s.grant := rfl
@[simp] theorem setInbox_waiting (a : Axis) (l : List AxisRecord) : (s.setInbox a l).waiting = s.waiting := rfl
@[simp] theorem setInbox_lastServed (a : Axis) (l : List AxisRecord) : (s.setInbox a l).lastServed = s.lastServed := rfl
@[simp] theorem setInbox_axis (a : Axis) (l : List AxisRecord) (i : Axis) : (s.setInbox a l).axis i = s.axis i := rfl
@[simp] theorem setInbox_slot (a : Axis) (l : List AxisRecord) (i : SlotNo) : (s.setInbox a l).slot i = s.slot i := rfl
@[simp] theorem setInbox_armList (a : Axis) (l : List AxisRecord) (i : Axis) : (s.setInbox a l).armList i = s.armList i := rfl
@[simp] theorem setInbox_epochOf (a : Axis) (l : List AxisRecord) (i : Axis) : (s.setInbox a l).epochOf i = s.epochOf i := rfl
@[simp] theorem setInbox_line (a : Axis) (l : List AxisRecord) (i : LineNo) : (s.setInbox a l).line i = s.line i := rfl
@[simp] theorem setInbox_axisRight (a : Axis) (l : List AxisRecord) (i : Axis) : (s.setInbox a l).axisRight i = s.axisRight i := rfl
@[simp] theorem setInbox_note (a : Axis) (l : List AxisRecord) (i : Port) : (s.setInbox a l).note i = s.note i := rfl
@[simp] theorem setInbox_view (a : Axis) (l : List AxisRecord) (i : Port) : (s.setInbox a l).view i = s.view i := rfl
@[simp] theorem setInbox_session (a : Axis) (l : List AxisRecord) (i : Port) : (s.setInbox a l).session i = s.session i := rfl
@[simp] theorem setInbox_link (a : Axis) (l : List AxisRecord) (i : Port) : (s.setInbox a l).link i = s.link i := rfl
@[simp] theorem setInbox_heldBy (a : Axis) (l : List AxisRecord) (i : Port) : (s.setInbox a l).heldBy i = s.heldBy i := rfl

/-! ### setLine -/

theorem setLine_line (l : LineNo) (r : LineRec) (k : LineNo) : (s.setLine l r).line k = if k = l then r else s.line k := by
  simp only [setLine, line, Fin.getElem_fin, Vector.getElem_set, Fin.val_inj, eq_comm]

@[simp] theorem setLine_line_self (l : LineNo) (r : LineRec) : (s.setLine l r).line l = r := by
  simp [setLine_line]

theorem setLine_line_ne (l : LineNo) (r : LineRec) {k : LineNo} (h : k ≠ l) : (s.setLine l r).line k = s.line k := by
  simp [setLine_line, h]

@[simp] theorem setLine_pending (l : LineNo) (r : LineRec) : (s.setLine l r).pending = s.pending := rfl
@[simp] theorem setLine_tick (l : LineNo) (r : LineRec) : (s.setLine l r).tick = s.tick := rfl
@[simp] theorem setLine_periods (l : LineNo) (r : LineRec) : (s.setLine l r).periods = s.periods := rfl
@[simp] theorem setLine_inReset (l : LineNo) (r : LineRec) : (s.setLine l r).inReset = s.inReset := rfl
@[simp] theorem setLine_resetCause (l : LineNo) (r : LineRec) : (s.setLine l r).resetCause = s.resetCause := rfl
@[simp] theorem setLine_pins (l : LineNo) (r : LineRec) : (s.setLine l r).pins = s.pins := rfl
@[simp] theorem setLine_axes (l : LineNo) (r : LineRec) : (s.setLine l r).axes = s.axes := rfl
@[simp] theorem setLine_slots (l : LineNo) (r : LineRec) : (s.setLine l r).slots = s.slots := rfl
@[simp] theorem setLine_armLists (l : LineNo) (r : LineRec) : (s.setLine l r).armLists = s.armLists := rfl
@[simp] theorem setLine_held (l : LineNo) (r : LineRec) : (s.setLine l r).held = s.held := rfl
@[simp] theorem setLine_tableEpoch (l : LineNo) (r : LineRec) : (s.setLine l r).tableEpoch = s.tableEpoch := rfl
@[simp] theorem setLine_tableIn (l : LineNo) (r : LineRec) : (s.setLine l r).tableIn = s.tableIn := rfl
@[simp] theorem setLine_notes (l : LineNo) (r : LineRec) : (s.setLine l r).notes = s.notes := rfl
@[simp] theorem setLine_views (l : LineNo) (r : LineRec) : (s.setLine l r).views = s.views := rfl
@[simp] theorem setLine_sessions (l : LineNo) (r : LineRec) : (s.setLine l r).sessions = s.sessions := rfl
@[simp] theorem setLine_unreserved (l : LineNo) (r : LineRec) : (s.setLine l r).unreserved = s.unreserved := rfl
@[simp] theorem setLine_axisRights (l : LineNo) (r : LineRec) : (s.setLine l r).axisRights = s.axisRights := rfl
@[simp] theorem setLine_links (l : LineNo) (r : LineRec) : (s.setLine l r).links = s.links := rfl
@[simp] theorem setLine_grant (l : LineNo) (r : LineRec) : (s.setLine l r).grant = s.grant := rfl
@[simp] theorem setLine_waiting (l : LineNo) (r : LineRec) : (s.setLine l r).waiting = s.waiting := rfl
@[simp] theorem setLine_lastServed (l : LineNo) (r : LineRec) : (s.setLine l r).lastServed = s.lastServed := rfl
@[simp] theorem setLine_axis (l : LineNo) (r : LineRec) (i : Axis) : (s.setLine l r).axis i = s.axis i := rfl
@[simp] theorem setLine_slot (l : LineNo) (r : LineRec) (i : SlotNo) : (s.setLine l r).slot i = s.slot i := rfl
@[simp] theorem setLine_armList (l : LineNo) (r : LineRec) (i : Axis) : (s.setLine l r).armList i = s.armList i := rfl
@[simp] theorem setLine_epochOf (l : LineNo) (r : LineRec) (i : Axis) : (s.setLine l r).epochOf i = s.epochOf i := rfl
@[simp] theorem setLine_inbox (l : LineNo) (r : LineRec) (i : Axis) : (s.setLine l r).inbox i = s.inbox i := rfl
@[simp] theorem setLine_axisRight (l : LineNo) (r : LineRec) (i : Axis) : (s.setLine l r).axisRight i = s.axisRight i := rfl
@[simp] theorem setLine_note (l : LineNo) (r : LineRec) (i : Port) : (s.setLine l r).note i = s.note i := rfl
@[simp] theorem setLine_view (l : LineNo) (r : LineRec) (i : Port) : (s.setLine l r).view i = s.view i := rfl
@[simp] theorem setLine_session (l : LineNo) (r : LineRec) (i : Port) : (s.setLine l r).session i = s.session i := rfl
@[simp] theorem setLine_link (l : LineNo) (r : LineRec) (i : Port) : (s.setLine l r).link i = s.link i := rfl
@[simp] theorem setLine_heldBy (l : LineNo) (r : LineRec) (i : Port) : (s.setLine l r).heldBy i = s.heldBy i := rfl

/-! ### setAxisRight -/

theorem setAxisRight_axisRight (a : Axis) (o : Option Port) (b : Axis) : (s.setAxisRight a o).axisRight b = if b = a then o else s.axisRight b := by
  simp only [setAxisRight, axisRight, Fin.getElem_fin, Vector.getElem_set, Fin.val_inj, eq_comm]

@[simp] theorem setAxisRight_axisRight_self (a : Axis) (o : Option Port) : (s.setAxisRight a o).axisRight a = o := by
  simp [setAxisRight_axisRight]

theorem setAxisRight_axisRight_ne (a : Axis) (o : Option Port) {b : Axis} (h : b ≠ a) : (s.setAxisRight a o).axisRight b = s.axisRight b := by
  simp [setAxisRight_axisRight, h]

@[simp] theorem setAxisRight_pending (a : Axis) (o : Option Port) : (s.setAxisRight a o).pending = s.pending := rfl
@[simp] theorem setAxisRight_tick (a : Axis) (o : Option Port) : (s.setAxisRight a o).tick = s.tick := rfl
@[simp] theorem setAxisRight_periods (a : Axis) (o : Option Port) : (s.setAxisRight a o).periods = s.periods := rfl
@[simp] theorem setAxisRight_inReset (a : Axis) (o : Option Port) : (s.setAxisRight a o).inReset = s.inReset := rfl
@[simp] theorem setAxisRight_resetCause (a : Axis) (o : Option Port) : (s.setAxisRight a o).resetCause = s.resetCause := rfl
@[simp] theorem setAxisRight_pins (a : Axis) (o : Option Port) : (s.setAxisRight a o).pins = s.pins := rfl
@[simp] theorem setAxisRight_axes (a : Axis) (o : Option Port) : (s.setAxisRight a o).axes = s.axes := rfl
@[simp] theorem setAxisRight_slots (a : Axis) (o : Option Port) : (s.setAxisRight a o).slots = s.slots := rfl
@[simp] theorem setAxisRight_armLists (a : Axis) (o : Option Port) : (s.setAxisRight a o).armLists = s.armLists := rfl
@[simp] theorem setAxisRight_held (a : Axis) (o : Option Port) : (s.setAxisRight a o).held = s.held := rfl
@[simp] theorem setAxisRight_tableEpoch (a : Axis) (o : Option Port) : (s.setAxisRight a o).tableEpoch = s.tableEpoch := rfl
@[simp] theorem setAxisRight_tableIn (a : Axis) (o : Option Port) : (s.setAxisRight a o).tableIn = s.tableIn := rfl
@[simp] theorem setAxisRight_lines (a : Axis) (o : Option Port) : (s.setAxisRight a o).lines = s.lines := rfl
@[simp] theorem setAxisRight_notes (a : Axis) (o : Option Port) : (s.setAxisRight a o).notes = s.notes := rfl
@[simp] theorem setAxisRight_views (a : Axis) (o : Option Port) : (s.setAxisRight a o).views = s.views := rfl
@[simp] theorem setAxisRight_sessions (a : Axis) (o : Option Port) : (s.setAxisRight a o).sessions = s.sessions := rfl
@[simp] theorem setAxisRight_unreserved (a : Axis) (o : Option Port) : (s.setAxisRight a o).unreserved = s.unreserved := rfl
@[simp] theorem setAxisRight_links (a : Axis) (o : Option Port) : (s.setAxisRight a o).links = s.links := rfl
@[simp] theorem setAxisRight_grant (a : Axis) (o : Option Port) : (s.setAxisRight a o).grant = s.grant := rfl
@[simp] theorem setAxisRight_waiting (a : Axis) (o : Option Port) : (s.setAxisRight a o).waiting = s.waiting := rfl
@[simp] theorem setAxisRight_lastServed (a : Axis) (o : Option Port) : (s.setAxisRight a o).lastServed = s.lastServed := rfl
@[simp] theorem setAxisRight_axis (a : Axis) (o : Option Port) (i : Axis) : (s.setAxisRight a o).axis i = s.axis i := rfl
@[simp] theorem setAxisRight_slot (a : Axis) (o : Option Port) (i : SlotNo) : (s.setAxisRight a o).slot i = s.slot i := rfl
@[simp] theorem setAxisRight_armList (a : Axis) (o : Option Port) (i : Axis) : (s.setAxisRight a o).armList i = s.armList i := rfl
@[simp] theorem setAxisRight_epochOf (a : Axis) (o : Option Port) (i : Axis) : (s.setAxisRight a o).epochOf i = s.epochOf i := rfl
@[simp] theorem setAxisRight_inbox (a : Axis) (o : Option Port) (i : Axis) : (s.setAxisRight a o).inbox i = s.inbox i := rfl
@[simp] theorem setAxisRight_line (a : Axis) (o : Option Port) (i : LineNo) : (s.setAxisRight a o).line i = s.line i := rfl
@[simp] theorem setAxisRight_note (a : Axis) (o : Option Port) (i : Port) : (s.setAxisRight a o).note i = s.note i := rfl
@[simp] theorem setAxisRight_view (a : Axis) (o : Option Port) (i : Port) : (s.setAxisRight a o).view i = s.view i := rfl
@[simp] theorem setAxisRight_session (a : Axis) (o : Option Port) (i : Port) : (s.setAxisRight a o).session i = s.session i := rfl
@[simp] theorem setAxisRight_link (a : Axis) (o : Option Port) (i : Port) : (s.setAxisRight a o).link i = s.link i := rfl
@[simp] theorem setAxisRight_heldBy (a : Axis) (o : Option Port) (i : Port) : (s.setAxisRight a o).heldBy i = s.heldBy i := rfl

/-! ### setNote -/

theorem setNote_note (p : Port) (u : NoteUnit) (q : Port) : (s.setNote p u).note q = if q = p then u else s.note q :=
  PerPort.get_set _ _ _ _

@[simp] theorem setNote_note_self (p : Port) (u : NoteUnit) : (s.setNote p u).note p = u := by
  simp [setNote_note]

theorem setNote_note_ne (p : Port) (u : NoteUnit) {q : Port} (h : q ≠ p) : (s.setNote p u).note q = s.note q := by
  simp [setNote_note, h]

@[simp] theorem setNote_pending (p : Port) (u : NoteUnit) : (s.setNote p u).pending = s.pending := rfl
@[simp] theorem setNote_tick (p : Port) (u : NoteUnit) : (s.setNote p u).tick = s.tick := rfl
@[simp] theorem setNote_periods (p : Port) (u : NoteUnit) : (s.setNote p u).periods = s.periods := rfl
@[simp] theorem setNote_inReset (p : Port) (u : NoteUnit) : (s.setNote p u).inReset = s.inReset := rfl
@[simp] theorem setNote_resetCause (p : Port) (u : NoteUnit) : (s.setNote p u).resetCause = s.resetCause := rfl
@[simp] theorem setNote_pins (p : Port) (u : NoteUnit) : (s.setNote p u).pins = s.pins := rfl
@[simp] theorem setNote_axes (p : Port) (u : NoteUnit) : (s.setNote p u).axes = s.axes := rfl
@[simp] theorem setNote_slots (p : Port) (u : NoteUnit) : (s.setNote p u).slots = s.slots := rfl
@[simp] theorem setNote_armLists (p : Port) (u : NoteUnit) : (s.setNote p u).armLists = s.armLists := rfl
@[simp] theorem setNote_held (p : Port) (u : NoteUnit) : (s.setNote p u).held = s.held := rfl
@[simp] theorem setNote_tableEpoch (p : Port) (u : NoteUnit) : (s.setNote p u).tableEpoch = s.tableEpoch := rfl
@[simp] theorem setNote_tableIn (p : Port) (u : NoteUnit) : (s.setNote p u).tableIn = s.tableIn := rfl
@[simp] theorem setNote_lines (p : Port) (u : NoteUnit) : (s.setNote p u).lines = s.lines := rfl
@[simp] theorem setNote_views (p : Port) (u : NoteUnit) : (s.setNote p u).views = s.views := rfl
@[simp] theorem setNote_sessions (p : Port) (u : NoteUnit) : (s.setNote p u).sessions = s.sessions := rfl
@[simp] theorem setNote_unreserved (p : Port) (u : NoteUnit) : (s.setNote p u).unreserved = s.unreserved := rfl
@[simp] theorem setNote_axisRights (p : Port) (u : NoteUnit) : (s.setNote p u).axisRights = s.axisRights := rfl
@[simp] theorem setNote_links (p : Port) (u : NoteUnit) : (s.setNote p u).links = s.links := rfl
@[simp] theorem setNote_grant (p : Port) (u : NoteUnit) : (s.setNote p u).grant = s.grant := rfl
@[simp] theorem setNote_waiting (p : Port) (u : NoteUnit) : (s.setNote p u).waiting = s.waiting := rfl
@[simp] theorem setNote_lastServed (p : Port) (u : NoteUnit) : (s.setNote p u).lastServed = s.lastServed := rfl
@[simp] theorem setNote_axis (p : Port) (u : NoteUnit) (i : Axis) : (s.setNote p u).axis i = s.axis i := rfl
@[simp] theorem setNote_slot (p : Port) (u : NoteUnit) (i : SlotNo) : (s.setNote p u).slot i = s.slot i := rfl
@[simp] theorem setNote_armList (p : Port) (u : NoteUnit) (i : Axis) : (s.setNote p u).armList i = s.armList i := rfl
@[simp] theorem setNote_epochOf (p : Port) (u : NoteUnit) (i : Axis) : (s.setNote p u).epochOf i = s.epochOf i := rfl
@[simp] theorem setNote_inbox (p : Port) (u : NoteUnit) (i : Axis) : (s.setNote p u).inbox i = s.inbox i := rfl
@[simp] theorem setNote_line (p : Port) (u : NoteUnit) (i : LineNo) : (s.setNote p u).line i = s.line i := rfl
@[simp] theorem setNote_axisRight (p : Port) (u : NoteUnit) (i : Axis) : (s.setNote p u).axisRight i = s.axisRight i := rfl
@[simp] theorem setNote_view (p : Port) (u : NoteUnit) (i : Port) : (s.setNote p u).view i = s.view i := rfl
@[simp] theorem setNote_session (p : Port) (u : NoteUnit) (i : Port) : (s.setNote p u).session i = s.session i := rfl
@[simp] theorem setNote_link (p : Port) (u : NoteUnit) (i : Port) : (s.setNote p u).link i = s.link i := rfl
@[simp] theorem setNote_heldBy (p : Port) (u : NoteUnit) (i : Port) : (s.setNote p u).heldBy i = s.heldBy i := rfl

/-! ### setView -/

theorem setView_view (p : Port) (v : View) (q : Port) : (s.setView p v).view q = if q = p then v else s.view q :=
  PerPort.get_set _ _ _ _

@[simp] theorem setView_view_self (p : Port) (v : View) : (s.setView p v).view p = v := by
  simp [setView_view]

theorem setView_view_ne (p : Port) (v : View) {q : Port} (h : q ≠ p) : (s.setView p v).view q = s.view q := by
  simp [setView_view, h]

@[simp] theorem setView_pending (p : Port) (v : View) : (s.setView p v).pending = s.pending := rfl
@[simp] theorem setView_tick (p : Port) (v : View) : (s.setView p v).tick = s.tick := rfl
@[simp] theorem setView_periods (p : Port) (v : View) : (s.setView p v).periods = s.periods := rfl
@[simp] theorem setView_inReset (p : Port) (v : View) : (s.setView p v).inReset = s.inReset := rfl
@[simp] theorem setView_resetCause (p : Port) (v : View) : (s.setView p v).resetCause = s.resetCause := rfl
@[simp] theorem setView_pins (p : Port) (v : View) : (s.setView p v).pins = s.pins := rfl
@[simp] theorem setView_axes (p : Port) (v : View) : (s.setView p v).axes = s.axes := rfl
@[simp] theorem setView_slots (p : Port) (v : View) : (s.setView p v).slots = s.slots := rfl
@[simp] theorem setView_armLists (p : Port) (v : View) : (s.setView p v).armLists = s.armLists := rfl
@[simp] theorem setView_held (p : Port) (v : View) : (s.setView p v).held = s.held := rfl
@[simp] theorem setView_tableEpoch (p : Port) (v : View) : (s.setView p v).tableEpoch = s.tableEpoch := rfl
@[simp] theorem setView_tableIn (p : Port) (v : View) : (s.setView p v).tableIn = s.tableIn := rfl
@[simp] theorem setView_lines (p : Port) (v : View) : (s.setView p v).lines = s.lines := rfl
@[simp] theorem setView_notes (p : Port) (v : View) : (s.setView p v).notes = s.notes := rfl
@[simp] theorem setView_sessions (p : Port) (v : View) : (s.setView p v).sessions = s.sessions := rfl
@[simp] theorem setView_unreserved (p : Port) (v : View) : (s.setView p v).unreserved = s.unreserved := rfl
@[simp] theorem setView_axisRights (p : Port) (v : View) : (s.setView p v).axisRights = s.axisRights := rfl
@[simp] theorem setView_links (p : Port) (v : View) : (s.setView p v).links = s.links := rfl
@[simp] theorem setView_grant (p : Port) (v : View) : (s.setView p v).grant = s.grant := rfl
@[simp] theorem setView_waiting (p : Port) (v : View) : (s.setView p v).waiting = s.waiting := rfl
@[simp] theorem setView_lastServed (p : Port) (v : View) : (s.setView p v).lastServed = s.lastServed := rfl
@[simp] theorem setView_axis (p : Port) (v : View) (i : Axis) : (s.setView p v).axis i = s.axis i := rfl
@[simp] theorem setView_slot (p : Port) (v : View) (i : SlotNo) : (s.setView p v).slot i = s.slot i := rfl
@[simp] theorem setView_armList (p : Port) (v : View) (i : Axis) : (s.setView p v).armList i = s.armList i := rfl
@[simp] theorem setView_epochOf (p : Port) (v : View) (i : Axis) : (s.setView p v).epochOf i = s.epochOf i := rfl
@[simp] theorem setView_inbox (p : Port) (v : View) (i : Axis) : (s.setView p v).inbox i = s.inbox i := rfl
@[simp] theorem setView_line (p : Port) (v : View) (i : LineNo) : (s.setView p v).line i = s.line i := rfl
@[simp] theorem setView_axisRight (p : Port) (v : View) (i : Axis) : (s.setView p v).axisRight i = s.axisRight i := rfl
@[simp] theorem setView_note (p : Port) (v : View) (i : Port) : (s.setView p v).note i = s.note i := rfl
@[simp] theorem setView_session (p : Port) (v : View) (i : Port) : (s.setView p v).session i = s.session i := rfl
@[simp] theorem setView_link (p : Port) (v : View) (i : Port) : (s.setView p v).link i = s.link i := rfl
@[simp] theorem setView_heldBy (p : Port) (v : View) (i : Port) : (s.setView p v).heldBy i = s.heldBy i := rfl

/-! ### setSession -/

theorem setSession_session (p : Port) (r : Session) (q : Port) : (s.setSession p r).session q = if q = p then r else s.session q :=
  PerPort.get_set _ _ _ _

@[simp] theorem setSession_session_self (p : Port) (r : Session) : (s.setSession p r).session p = r := by
  simp [setSession_session]

theorem setSession_session_ne (p : Port) (r : Session) {q : Port} (h : q ≠ p) : (s.setSession p r).session q = s.session q := by
  simp [setSession_session, h]

@[simp] theorem setSession_pending (p : Port) (r : Session) : (s.setSession p r).pending = s.pending := rfl
@[simp] theorem setSession_tick (p : Port) (r : Session) : (s.setSession p r).tick = s.tick := rfl
@[simp] theorem setSession_periods (p : Port) (r : Session) : (s.setSession p r).periods = s.periods := rfl
@[simp] theorem setSession_inReset (p : Port) (r : Session) : (s.setSession p r).inReset = s.inReset := rfl
@[simp] theorem setSession_resetCause (p : Port) (r : Session) : (s.setSession p r).resetCause = s.resetCause := rfl
@[simp] theorem setSession_pins (p : Port) (r : Session) : (s.setSession p r).pins = s.pins := rfl
@[simp] theorem setSession_axes (p : Port) (r : Session) : (s.setSession p r).axes = s.axes := rfl
@[simp] theorem setSession_slots (p : Port) (r : Session) : (s.setSession p r).slots = s.slots := rfl
@[simp] theorem setSession_armLists (p : Port) (r : Session) : (s.setSession p r).armLists = s.armLists := rfl
@[simp] theorem setSession_held (p : Port) (r : Session) : (s.setSession p r).held = s.held := rfl
@[simp] theorem setSession_tableEpoch (p : Port) (r : Session) : (s.setSession p r).tableEpoch = s.tableEpoch := rfl
@[simp] theorem setSession_tableIn (p : Port) (r : Session) : (s.setSession p r).tableIn = s.tableIn := rfl
@[simp] theorem setSession_lines (p : Port) (r : Session) : (s.setSession p r).lines = s.lines := rfl
@[simp] theorem setSession_notes (p : Port) (r : Session) : (s.setSession p r).notes = s.notes := rfl
@[simp] theorem setSession_views (p : Port) (r : Session) : (s.setSession p r).views = s.views := rfl
@[simp] theorem setSession_unreserved (p : Port) (r : Session) : (s.setSession p r).unreserved = s.unreserved := rfl
@[simp] theorem setSession_axisRights (p : Port) (r : Session) : (s.setSession p r).axisRights = s.axisRights := rfl
@[simp] theorem setSession_links (p : Port) (r : Session) : (s.setSession p r).links = s.links := rfl
@[simp] theorem setSession_grant (p : Port) (r : Session) : (s.setSession p r).grant = s.grant := rfl
@[simp] theorem setSession_waiting (p : Port) (r : Session) : (s.setSession p r).waiting = s.waiting := rfl
@[simp] theorem setSession_lastServed (p : Port) (r : Session) : (s.setSession p r).lastServed = s.lastServed := rfl
@[simp] theorem setSession_axis (p : Port) (r : Session) (i : Axis) : (s.setSession p r).axis i = s.axis i := rfl
@[simp] theorem setSession_slot (p : Port) (r : Session) (i : SlotNo) : (s.setSession p r).slot i = s.slot i := rfl
@[simp] theorem setSession_armList (p : Port) (r : Session) (i : Axis) : (s.setSession p r).armList i = s.armList i := rfl
@[simp] theorem setSession_epochOf (p : Port) (r : Session) (i : Axis) : (s.setSession p r).epochOf i = s.epochOf i := rfl
@[simp] theorem setSession_inbox (p : Port) (r : Session) (i : Axis) : (s.setSession p r).inbox i = s.inbox i := rfl
@[simp] theorem setSession_line (p : Port) (r : Session) (i : LineNo) : (s.setSession p r).line i = s.line i := rfl
@[simp] theorem setSession_axisRight (p : Port) (r : Session) (i : Axis) : (s.setSession p r).axisRight i = s.axisRight i := rfl
@[simp] theorem setSession_note (p : Port) (r : Session) (i : Port) : (s.setSession p r).note i = s.note i := rfl
@[simp] theorem setSession_view (p : Port) (r : Session) (i : Port) : (s.setSession p r).view i = s.view i := rfl
@[simp] theorem setSession_link (p : Port) (r : Session) (i : Port) : (s.setSession p r).link i = s.link i := rfl
@[simp] theorem setSession_heldBy (p : Port) (r : Session) (i : Port) : (s.setSession p r).heldBy i = s.heldBy i := rfl

/-! ### setLink -/

theorem setLink_link (p : Port) (l : Link) (q : Port) : (s.setLink p l).link q = if q = p then l else s.link q :=
  PerPort.get_set _ _ _ _

@[simp] theorem setLink_link_self (p : Port) (l : Link) : (s.setLink p l).link p = l := by
  simp [setLink_link]

theorem setLink_link_ne (p : Port) (l : Link) {q : Port} (h : q ≠ p) : (s.setLink p l).link q = s.link q := by
  simp [setLink_link, h]

@[simp] theorem setLink_pending (p : Port) (l : Link) : (s.setLink p l).pending = s.pending := rfl
@[simp] theorem setLink_tick (p : Port) (l : Link) : (s.setLink p l).tick = s.tick := rfl
@[simp] theorem setLink_periods (p : Port) (l : Link) : (s.setLink p l).periods = s.periods := rfl
@[simp] theorem setLink_inReset (p : Port) (l : Link) : (s.setLink p l).inReset = s.inReset := rfl
@[simp] theorem setLink_resetCause (p : Port) (l : Link) : (s.setLink p l).resetCause = s.resetCause := rfl
@[simp] theorem setLink_pins (p : Port) (l : Link) : (s.setLink p l).pins = s.pins := rfl
@[simp] theorem setLink_axes (p : Port) (l : Link) : (s.setLink p l).axes = s.axes := rfl
@[simp] theorem setLink_slots (p : Port) (l : Link) : (s.setLink p l).slots = s.slots := rfl
@[simp] theorem setLink_armLists (p : Port) (l : Link) : (s.setLink p l).armLists = s.armLists := rfl
@[simp] theorem setLink_held (p : Port) (l : Link) : (s.setLink p l).held = s.held := rfl
@[simp] theorem setLink_tableEpoch (p : Port) (l : Link) : (s.setLink p l).tableEpoch = s.tableEpoch := rfl
@[simp] theorem setLink_tableIn (p : Port) (l : Link) : (s.setLink p l).tableIn = s.tableIn := rfl
@[simp] theorem setLink_lines (p : Port) (l : Link) : (s.setLink p l).lines = s.lines := rfl
@[simp] theorem setLink_notes (p : Port) (l : Link) : (s.setLink p l).notes = s.notes := rfl
@[simp] theorem setLink_views (p : Port) (l : Link) : (s.setLink p l).views = s.views := rfl
@[simp] theorem setLink_sessions (p : Port) (l : Link) : (s.setLink p l).sessions = s.sessions := rfl
@[simp] theorem setLink_unreserved (p : Port) (l : Link) : (s.setLink p l).unreserved = s.unreserved := rfl
@[simp] theorem setLink_axisRights (p : Port) (l : Link) : (s.setLink p l).axisRights = s.axisRights := rfl
@[simp] theorem setLink_grant (p : Port) (l : Link) : (s.setLink p l).grant = s.grant := rfl
@[simp] theorem setLink_waiting (p : Port) (l : Link) : (s.setLink p l).waiting = s.waiting := rfl
@[simp] theorem setLink_lastServed (p : Port) (l : Link) : (s.setLink p l).lastServed = s.lastServed := rfl
@[simp] theorem setLink_axis (p : Port) (l : Link) (i : Axis) : (s.setLink p l).axis i = s.axis i := rfl
@[simp] theorem setLink_slot (p : Port) (l : Link) (i : SlotNo) : (s.setLink p l).slot i = s.slot i := rfl
@[simp] theorem setLink_armList (p : Port) (l : Link) (i : Axis) : (s.setLink p l).armList i = s.armList i := rfl
@[simp] theorem setLink_epochOf (p : Port) (l : Link) (i : Axis) : (s.setLink p l).epochOf i = s.epochOf i := rfl
@[simp] theorem setLink_inbox (p : Port) (l : Link) (i : Axis) : (s.setLink p l).inbox i = s.inbox i := rfl
@[simp] theorem setLink_line (p : Port) (l : Link) (i : LineNo) : (s.setLink p l).line i = s.line i := rfl
@[simp] theorem setLink_axisRight (p : Port) (l : Link) (i : Axis) : (s.setLink p l).axisRight i = s.axisRight i := rfl
@[simp] theorem setLink_note (p : Port) (l : Link) (i : Port) : (s.setLink p l).note i = s.note i := rfl
@[simp] theorem setLink_view (p : Port) (l : Link) (i : Port) : (s.setLink p l).view i = s.view i := rfl
@[simp] theorem setLink_session (p : Port) (l : Link) (i : Port) : (s.setLink p l).session i = s.session i := rfl
@[simp] theorem setLink_heldBy (p : Port) (l : Link) (i : Port) : (s.setLink p l).heldBy i = s.heldBy i := rfl

/-! ### setHeld -/

theorem setHeld_heldBy (p : Port) (k : Nat) (q : Port) : (s.setHeld p k).heldBy q = if q = p then k else s.heldBy q :=
  PerPort.get_set _ _ _ _

@[simp] theorem setHeld_heldBy_self (p : Port) (k : Nat) : (s.setHeld p k).heldBy p = k := by
  simp [setHeld_heldBy]

theorem setHeld_heldBy_ne (p : Port) (k : Nat) {q : Port} (h : q ≠ p) : (s.setHeld p k).heldBy q = s.heldBy q := by
  simp [setHeld_heldBy, h]

@[simp] theorem setHeld_pending (p : Port) (k : Nat) : (s.setHeld p k).pending = s.pending := rfl
@[simp] theorem setHeld_tick (p : Port) (k : Nat) : (s.setHeld p k).tick = s.tick := rfl
@[simp] theorem setHeld_periods (p : Port) (k : Nat) : (s.setHeld p k).periods = s.periods := rfl
@[simp] theorem setHeld_inReset (p : Port) (k : Nat) : (s.setHeld p k).inReset = s.inReset := rfl
@[simp] theorem setHeld_resetCause (p : Port) (k : Nat) : (s.setHeld p k).resetCause = s.resetCause := rfl
@[simp] theorem setHeld_pins (p : Port) (k : Nat) : (s.setHeld p k).pins = s.pins := rfl
@[simp] theorem setHeld_axes (p : Port) (k : Nat) : (s.setHeld p k).axes = s.axes := rfl
@[simp] theorem setHeld_slots (p : Port) (k : Nat) : (s.setHeld p k).slots = s.slots := rfl
@[simp] theorem setHeld_armLists (p : Port) (k : Nat) : (s.setHeld p k).armLists = s.armLists := rfl
@[simp] theorem setHeld_tableEpoch (p : Port) (k : Nat) : (s.setHeld p k).tableEpoch = s.tableEpoch := rfl
@[simp] theorem setHeld_tableIn (p : Port) (k : Nat) : (s.setHeld p k).tableIn = s.tableIn := rfl
@[simp] theorem setHeld_lines (p : Port) (k : Nat) : (s.setHeld p k).lines = s.lines := rfl
@[simp] theorem setHeld_notes (p : Port) (k : Nat) : (s.setHeld p k).notes = s.notes := rfl
@[simp] theorem setHeld_views (p : Port) (k : Nat) : (s.setHeld p k).views = s.views := rfl
@[simp] theorem setHeld_sessions (p : Port) (k : Nat) : (s.setHeld p k).sessions = s.sessions := rfl
@[simp] theorem setHeld_unreserved (p : Port) (k : Nat) : (s.setHeld p k).unreserved = s.unreserved := rfl
@[simp] theorem setHeld_axisRights (p : Port) (k : Nat) : (s.setHeld p k).axisRights = s.axisRights := rfl
@[simp] theorem setHeld_links (p : Port) (k : Nat) : (s.setHeld p k).links = s.links := rfl
@[simp] theorem setHeld_grant (p : Port) (k : Nat) : (s.setHeld p k).grant = s.grant := rfl
@[simp] theorem setHeld_waiting (p : Port) (k : Nat) : (s.setHeld p k).waiting = s.waiting := rfl
@[simp] theorem setHeld_lastServed (p : Port) (k : Nat) : (s.setHeld p k).lastServed = s.lastServed := rfl
@[simp] theorem setHeld_axis (p : Port) (k : Nat) (i : Axis) : (s.setHeld p k).axis i = s.axis i := rfl
@[simp] theorem setHeld_slot (p : Port) (k : Nat) (i : SlotNo) : (s.setHeld p k).slot i = s.slot i := rfl
@[simp] theorem setHeld_armList (p : Port) (k : Nat) (i : Axis) : (s.setHeld p k).armList i = s.armList i := rfl
@[simp] theorem setHeld_epochOf (p : Port) (k : Nat) (i : Axis) : (s.setHeld p k).epochOf i = s.epochOf i := rfl
@[simp] theorem setHeld_inbox (p : Port) (k : Nat) (i : Axis) : (s.setHeld p k).inbox i = s.inbox i := rfl
@[simp] theorem setHeld_line (p : Port) (k : Nat) (i : LineNo) : (s.setHeld p k).line i = s.line i := rfl
@[simp] theorem setHeld_axisRight (p : Port) (k : Nat) (i : Axis) : (s.setHeld p k).axisRight i = s.axisRight i := rfl
@[simp] theorem setHeld_note (p : Port) (k : Nat) (i : Port) : (s.setHeld p k).note i = s.note i := rfl
@[simp] theorem setHeld_view (p : Port) (k : Nat) (i : Port) : (s.setHeld p k).view i = s.view i := rfl
@[simp] theorem setHeld_session (p : Port) (k : Nat) (i : Port) : (s.setHeld p k).session i = s.session i := rfl
@[simp] theorem setHeld_link (p : Port) (k : Nat) (i : Port) : (s.setHeld p k).link i = s.link i := rfl

/-! ### After reset -/

@[simp] theorem reset_axis (a : Axis) : State.reset.axis a = .reset := by simp [State.reset, axis]
@[simp] theorem reset_slot (n : SlotNo) : State.reset.slot n = none := by simp [State.reset, slot]
@[simp] theorem reset_armList (a : Axis) : State.reset.armList a = [] := by simp [State.reset, armList]
@[simp] theorem reset_epochOf (a : Axis) : State.reset.epochOf a = 0 := by simp [State.reset, epochOf]
@[simp] theorem reset_inbox (a : Axis) : State.reset.inbox a = [] := by simp [State.reset, inbox]
@[simp] theorem reset_line (l : LineNo) : State.reset.line l = .reset := by simp [State.reset, line]
@[simp] theorem reset_axisRight (a : Axis) : State.reset.axisRight a = none := by simp [State.reset, axisRight]
@[simp] theorem reset_note (p : Port) : State.reset.note p = .reset := by simp [State.reset, note]
@[simp] theorem reset_view (p : Port) : State.reset.view p = .resetAt 0 := by simp [State.reset, view]
@[simp] theorem reset_session (p : Port) : State.reset.session p = .reset := by simp [State.reset, session]
@[simp] theorem reset_link (p : Port) : State.reset.link p = .reset := by simp [State.reset, link]
@[simp] theorem reset_heldBy (p : Port) : State.reset.heldBy p = 0 := by simp [State.reset, heldBy]

end State

end Sys2Proof.Machine
end

