-- ==== Sys2Proof/Laws/Ops.lean ====
section
/-!
SUPPORT. What the shared operations leave as it is, one lemma per field.
-/
namespace Sys2Proof.Machine

namespace State

variable (s : State)

/-! ### The arbiter and the end of a command -/

@[simp] theorem arbitrate_pending : (s.arbitrate).pending = s.pending := by 
  unfold arbitrate; split; rfl; split <;> rfl
@[simp] theorem arbitrate_tick : (s.arbitrate).tick = s.tick := by 
  unfold arbitrate; split; rfl; split <;> rfl
@[simp] theorem arbitrate_periods : (s.arbitrate).periods = s.periods := by 
  unfold arbitrate; split; rfl; split <;> rfl
@[simp] theorem arbitrate_inReset : (s.arbitrate).inReset = s.inReset := by 
  unfold arbitrate; split; rfl; split <;> rfl
@[simp] theorem arbitrate_resetCause : (s.arbitrate).resetCause = s.resetCause := by 
  unfold arbitrate; split; rfl; split <;> rfl
@[simp] theorem arbitrate_pins : (s.arbitrate).pins = s.pins := by 
  unfold arbitrate; split; rfl; split <;> rfl
@[simp] theorem arbitrate_axes : (s.arbitrate).axes = s.axes := by 
  unfold arbitrate; split; rfl; split <;> rfl
@[simp] theorem arbitrate_axis (i : Axis) : (s.arbitrate).axis i = s.axis i := by
  simp only [axis, arbitrate_axes]
@[simp] theorem arbitrate_slots : (s.arbitrate).slots = s.slots := by 
  unfold arbitrate; split; rfl; split <;> rfl
@[simp] theorem arbitrate_slot (i : SlotNo) : (s.arbitrate).slot i = s.slot i := by
  simp only [slot, arbitrate_slots]
@[simp] theorem arbitrate_armLists : (s.arbitrate).armLists = s.armLists := by 
  unfold arbitrate; split; rfl; split <;> rfl
@[simp] theorem arbitrate_armList (i : Axis) : (s.arbitrate).armList i = s.armList i := by
  simp only [armList, arbitrate_armLists]
@[simp] theorem arbitrate_held : (s.arbitrate).held = s.held := by 
  unfold arbitrate; split; rfl; split <;> rfl
@[simp] theorem arbitrate_heldBy (i : Port) : (s.arbitrate).heldBy i = s.heldBy i := by
  simp only [heldBy, arbitrate_held]
@[simp] theorem arbitrate_tableEpoch : (s.arbitrate).tableEpoch = s.tableEpoch := by 
  unfold arbitrate; split; rfl; split <;> rfl
@[simp] theorem arbitrate_epochOf (i : Axis) : (s.arbitrate).epochOf i = s.epochOf i := by
  simp only [epochOf, arbitrate_tableEpoch]
@[simp] theorem arbitrate_tableIn : (s.arbitrate).tableIn = s.tableIn := by 
  unfold arbitrate; split; rfl; split <;> rfl
@[simp] theorem arbitrate_inbox (i : Axis) : (s.arbitrate).inbox i = s.inbox i := by
  simp only [inbox, arbitrate_tableIn]
@[simp] theorem arbitrate_lines : (s.arbitrate).lines = s.lines := by 
  unfold arbitrate; split; rfl; split <;> rfl
@[simp] theorem arbitrate_line (i : LineNo) : (s.arbitrate).line i = s.line i := by
  simp only [line, arbitrate_lines]
@[simp] theorem arbitrate_notes : (s.arbitrate).notes = s.notes := by 
  unfold arbitrate; split; rfl; split <;> rfl
@[simp] theorem arbitrate_note (i : Port) : (s.arbitrate).note i = s.note i := by
  simp only [note, arbitrate_notes]
@[simp] theorem arbitrate_views : (s.arbitrate).views = s.views := by 
  unfold arbitrate; split; rfl; split <;> rfl
@[simp] theorem arbitrate_view (i : Port) : (s.arbitrate).view i = s.view i := by
  simp only [view, arbitrate_views]
@[simp] theorem arbitrate_sessions : (s.arbitrate).sessions = s.sessions := by 
  unfold arbitrate; split; rfl; split <;> rfl
@[simp] theorem arbitrate_session (i : Port) : (s.arbitrate).session i = s.session i := by
  simp only [session, arbitrate_sessions]
@[simp] theorem arbitrate_unreserved : (s.arbitrate).unreserved = s.unreserved := by 
  unfold arbitrate; split; rfl; split <;> rfl
@[simp] theorem arbitrate_axisRights : (s.arbitrate).axisRights = s.axisRights := by 
  unfold arbitrate; split; rfl; split <;> rfl
@[simp] theorem arbitrate_axisRight (i : Axis) : (s.arbitrate).axisRight i = s.axisRight i := by
  simp only [axisRight, arbitrate_axisRights]
@[simp] theorem arbitrate_links : (s.arbitrate).links = s.links := by 
  unfold arbitrate; split; rfl; split <;> rfl
@[simp] theorem arbitrate_link (i : Port) : (s.arbitrate).link i = s.link i := by
  simp only [link, arbitrate_links]
@[simp] theorem arbitrate_lastServed : (s.arbitrate).lastServed = s.lastServed := by 
  unfold arbitrate; split; rfl; split <;> rfl

@[simp] theorem joinArbiter_pending (p : Port) : (s.joinArbiter p).pending = s.pending := by simp [joinArbiter]
@[simp] theorem joinArbiter_tick (p : Port) : (s.joinArbiter p).tick = s.tick := by simp [joinArbiter]
@[simp] theorem joinArbiter_periods (p : Port) : (s.joinArbiter p).periods = s.periods := by simp [joinArbiter]
@[simp] theorem joinArbiter_inReset (p : Port) : (s.joinArbiter p).inReset = s.inReset := by simp [joinArbiter]
@[simp] theorem joinArbiter_resetCause (p : Port) : (s.joinArbiter p).resetCause = s.resetCause := by simp [joinArbiter]
@[simp] theorem joinArbiter_pins (p : Port) : (s.joinArbiter p).pins = s.pins := by simp [joinArbiter]
@[simp] theorem joinArbiter_axes (p : Port) : (s.joinArbiter p).axes = s.axes := by simp [joinArbiter]
@[simp] theorem joinArbiter_axis (p : Port) (i : Axis) : (s.joinArbiter p).axis i = s.axis i := by
  simp only [axis, joinArbiter_axes]
@[simp] theorem joinArbiter_slots (p : Port) : (s.joinArbiter p).slots = s.slots := by simp [joinArbiter]
@[simp] theorem joinArbiter_slot (p : Port) (i : SlotNo) : (s.joinArbiter p).slot i = s.slot i := by
  simp only [slot, joinArbiter_slots]
@[simp] theorem joinArbiter_armLists (p : Port) : (s.joinArbiter p).armLists = s.armLists := by simp [joinArbiter]
@[simp] theorem joinArbiter_armList (p : Port) (i : Axis) : (s.joinArbiter p).armList i = s.armList i := by
  simp only [armList, joinArbiter_armLists]
@[simp] theorem joinArbiter_held (p : Port) : (s.joinArbiter p).held = s.held := by simp [joinArbiter]
@[simp] theorem joinArbiter_heldBy (p : Port) (i : Port) : (s.joinArbiter p).heldBy i = s.heldBy i := by
  simp only [heldBy, joinArbiter_held]
@[simp] theorem joinArbiter_tableEpoch (p : Port) : (s.joinArbiter p).tableEpoch = s.tableEpoch := by simp [joinArbiter]
@[simp] theorem joinArbiter_epochOf (p : Port) (i : Axis) : (s.joinArbiter p).epochOf i = s.epochOf i := by
  simp only [epochOf, joinArbiter_tableEpoch]
@[simp] theorem joinArbiter_tableIn (p : Port) : (s.joinArbiter p).tableIn = s.tableIn := by simp [joinArbiter]
@[simp] theorem joinArbiter_inbox (p : Port) (i : Axis) : (s.joinArbiter p).inbox i = s.inbox i := by
  simp only [inbox, joinArbiter_tableIn]
@[simp] theorem joinArbiter_lines (p : Port) : (s.joinArbiter p).lines = s.lines := by simp [joinArbiter]
@[simp] theorem joinArbiter_line (p : Port) (i : LineNo) : (s.joinArbiter p).line i = s.line i := by
  simp only [line, joinArbiter_lines]
@[simp] theorem joinArbiter_notes (p : Port) : (s.joinArbiter p).notes = s.notes := by simp [joinArbiter]
@[simp] theorem joinArbiter_note (p : Port) (i : Port) : (s.joinArbiter p).note i = s.note i := by
  simp only [note, joinArbiter_notes]
@[simp] theorem joinArbiter_views (p : Port) : (s.joinArbiter p).views = s.views := by simp [joinArbiter]
@[simp] theorem joinArbiter_view (p : Port) (i : Port) : (s.joinArbiter p).view i = s.view i := by
  simp only [view, joinArbiter_views]
@[simp] theorem joinArbiter_sessions (p : Port) : (s.joinArbiter p).sessions = s.sessions := by simp [joinArbiter]
@[simp] theorem joinArbiter_session (p : Port) (i : Port) : (s.joinArbiter p).session i = s.session i := by
  simp only [session, joinArbiter_sessions]
@[simp] theorem joinArbiter_unreserved (p : Port) : (s.joinArbiter p).unreserved = s.unreserved := by simp [joinArbiter]
@[simp] theorem joinArbiter_axisRights (p : Port) : (s.joinArbiter p).axisRights = s.axisRights := by simp [joinArbiter]
@[simp] theorem joinArbiter_axisRight (p : Port) (i : Axis) : (s.joinArbiter p).axisRight i = s.axisRight i := by
  simp only [axisRight, joinArbiter_axisRights]
@[simp] theorem joinArbiter_links (p : Port) : (s.joinArbiter p).links = s.links := by simp [joinArbiter]
@[simp] theorem joinArbiter_link (p : Port) (i : Port) : (s.joinArbiter p).link i = s.link i := by
  simp only [link, joinArbiter_links]
@[simp] theorem joinArbiter_lastServed (p : Port) : (s.joinArbiter p).lastServed = s.lastServed := by simp [joinArbiter]

@[simp] theorem freeGrant_pending (p : Port) : (s.freeGrant p).pending = s.pending := by unfold freeGrant; split <;> simp
@[simp] theorem freeGrant_tick (p : Port) : (s.freeGrant p).tick = s.tick := by unfold freeGrant; split <;> simp
@[simp] theorem freeGrant_periods (p : Port) : (s.freeGrant p).periods = s.periods := by unfold freeGrant; split <;> simp
@[simp] theorem freeGrant_inReset (p : Port) : (s.freeGrant p).inReset = s.inReset := by unfold freeGrant; split <;> simp
@[simp] theorem freeGrant_resetCause (p : Port) : (s.freeGrant p).resetCause = s.resetCause := by unfold freeGrant; split <;> simp
@[simp] theorem freeGrant_pins (p : Port) : (s.freeGrant p).pins = s.pins := by unfold freeGrant; split <;> simp
@[simp] theorem freeGrant_axes (p : Port) : (s.freeGrant p).axes = s.axes := by unfold freeGrant; split <;> simp
@[simp] theorem freeGrant_axis (p : Port) (i : Axis) : (s.freeGrant p).axis i = s.axis i := by
  simp only [axis, freeGrant_axes]
@[simp] theorem freeGrant_slots (p : Port) : (s.freeGrant p).slots = s.slots := by unfold freeGrant; split <;> simp
@[simp] theorem freeGrant_slot (p : Port) (i : SlotNo) : (s.freeGrant p).slot i = s.slot i := by
  simp only [slot, freeGrant_slots]
@[simp] theorem freeGrant_armLists (p : Port) : (s.freeGrant p).armLists = s.armLists := by unfold freeGrant; split <;> simp
@[simp] theorem freeGrant_armList (p : Port) (i : Axis) : (s.freeGrant p).armList i = s.armList i := by
  simp only [armList, freeGrant_armLists]
@[simp] theorem freeGrant_held (p : Port) : (s.freeGrant p).held = s.held := by unfold freeGrant; split <;> simp
@[simp] theorem freeGrant_heldBy (p : Port) (i : Port) : (s.freeGrant p).heldBy i = s.heldBy i := by
  simp only [heldBy, freeGrant_held]
@[simp] theorem freeGrant_tableEpoch (p : Port) : (s.freeGrant p).tableEpoch = s.tableEpoch := by unfold freeGrant; split <;> simp
@[simp] theorem freeGrant_epochOf (p : Port) (i : Axis) : (s.freeGrant p).epochOf i = s.epochOf i := by
  simp only [epochOf, freeGrant_tableEpoch]
@[simp] theorem freeGrant_tableIn (p : Port) : (s.freeGrant p).tableIn = s.tableIn := by unfold freeGrant; split <;> simp
@[simp] theorem freeGrant_inbox (p : Port) (i : Axis) : (s.freeGrant p).inbox i = s.inbox i := by
  simp only [inbox, freeGrant_tableIn]
@[simp] theorem freeGrant_lines (p : Port) : (s.freeGrant p).lines = s.lines := by unfold freeGrant; split <;> simp
@[simp] theorem freeGrant_line (p : Port) (i : LineNo) : (s.freeGrant p).line i = s.line i := by
  simp only [line, freeGrant_lines]
@[simp] theorem freeGrant_notes (p : Port) : (s.freeGrant p).notes = s.notes := by unfold freeGrant; split <;> simp
@[simp] theorem freeGrant_note (p : Port) (i : Port) : (s.freeGrant p).note i = s.note i := by
  simp only [note, freeGrant_notes]
@[simp] theorem freeGrant_views (p : Port) : (s.freeGrant p).views = s.views := by unfold freeGrant; split <;> simp
@[simp] theorem freeGrant_view (p : Port) (i : Port) : (s.freeGrant p).view i = s.view i := by
  simp only [view, freeGrant_views]
@[simp] theorem freeGrant_sessions (p : Port) : (s.freeGrant p).sessions = s.sessions := by unfold freeGrant; split <;> simp
@[simp] theorem freeGrant_session (p : Port) (i : Port) : (s.freeGrant p).session i = s.session i := by
  simp only [session, freeGrant_sessions]
@[simp] theorem freeGrant_unreserved (p : Port) : (s.freeGrant p).unreserved = s.unreserved := by unfold freeGrant; split <;> simp
@[simp] theorem freeGrant_axisRights (p : Port) : (s.freeGrant p).axisRights = s.axisRights := by unfold freeGrant; split <;> simp
@[simp] theorem freeGrant_axisRight (p : Port) (i : Axis) : (s.freeGrant p).axisRight i = s.axisRight i := by
  simp only [axisRight, freeGrant_axisRights]
@[simp] theorem freeGrant_links (p : Port) : (s.freeGrant p).links = s.links := by unfold freeGrant; split <;> simp
@[simp] theorem freeGrant_link (p : Port) (i : Port) : (s.freeGrant p).link i = s.link i := by
  simp only [link, freeGrant_links]

@[simp] theorem leaveArbiter_pending (p : Port) : (s.leaveArbiter p).pending = s.pending := by unfold leaveArbiter; split <;> simp
@[simp] theorem leaveArbiter_tick (p : Port) : (s.leaveArbiter p).tick = s.tick := by unfold leaveArbiter; split <;> simp
@[simp] theorem leaveArbiter_periods (p : Port) : (s.leaveArbiter p).periods = s.periods := by unfold leaveArbiter; split <;> simp
@[simp] theorem leaveArbiter_inReset (p : Port) : (s.leaveArbiter p).inReset = s.inReset := by unfold leaveArbiter; split <;> simp
@[simp] theorem leaveArbiter_resetCause (p : Port) : (s.leaveArbiter p).resetCause = s.resetCause := by unfold leaveArbiter; split <;> simp
@[simp] theorem leaveArbiter_pins (p : Port) : (s.leaveArbiter p).pins = s.pins := by unfold leaveArbiter; split <;> simp
@[simp] theorem leaveArbiter_axes (p : Port) : (s.leaveArbiter p).axes = s.axes := by unfold leaveArbiter; split <;> simp
@[simp] theorem leaveArbiter_axis (p : Port) (i : Axis) : (s.leaveArbiter p).axis i = s.axis i := by
  simp only [axis, leaveArbiter_axes]
@[simp] theorem leaveArbiter_slots (p : Port) : (s.leaveArbiter p).slots = s.slots := by unfold leaveArbiter; split <;> simp
@[simp] theorem leaveArbiter_slot (p : Port) (i : SlotNo) : (s.leaveArbiter p).slot i = s.slot i := by
  simp only [slot, leaveArbiter_slots]
@[simp] theorem leaveArbiter_armLists (p : Port) : (s.leaveArbiter p).armLists = s.armLists := by unfold leaveArbiter; split <;> simp
@[simp] theorem leaveArbiter_armList (p : Port) (i : Axis) : (s.leaveArbiter p).armList i = s.armList i := by
  simp only [armList, leaveArbiter_armLists]
@[simp] theorem leaveArbiter_held (p : Port) : (s.leaveArbiter p).held = s.held := by unfold leaveArbiter; split <;> simp
@[simp] theorem leaveArbiter_heldBy (p : Port) (i : Port) : (s.leaveArbiter p).heldBy i = s.heldBy i := by
  simp only [heldBy, leaveArbiter_held]
@[simp] theorem leaveArbiter_tableEpoch (p : Port) : (s.leaveArbiter p).tableEpoch = s.tableEpoch := by unfold leaveArbiter; split <;> simp
@[simp] theorem leaveArbiter_epochOf (p : Port) (i : Axis) : (s.leaveArbiter p).epochOf i = s.epochOf i := by
  simp only [epochOf, leaveArbiter_tableEpoch]
@[simp] theorem leaveArbiter_tableIn (p : Port) : (s.leaveArbiter p).tableIn = s.tableIn := by unfold leaveArbiter; split <;> simp
@[simp] theorem leaveArbiter_inbox (p : Port) (i : Axis) : (s.leaveArbiter p).inbox i = s.inbox i := by
  simp only [inbox, leaveArbiter_tableIn]
@[simp] theorem leaveArbiter_lines (p : Port) : (s.leaveArbiter p).lines = s.lines := by unfold leaveArbiter; split <;> simp
@[simp] theorem leaveArbiter_line (p : Port) (i : LineNo) : (s.leaveArbiter p).line i = s.line i := by
  simp only [line, leaveArbiter_lines]
@[simp] theorem leaveArbiter_notes (p : Port) : (s.leaveArbiter p).notes = s.notes := by unfold leaveArbiter; split <;> simp
@[simp] theorem leaveArbiter_note (p : Port) (i : Port) : (s.leaveArbiter p).note i = s.note i := by
  simp only [note, leaveArbiter_notes]
@[simp] theorem leaveArbiter_views (p : Port) : (s.leaveArbiter p).views = s.views := by unfold leaveArbiter; split <;> simp
@[simp] theorem leaveArbiter_view (p : Port) (i : Port) : (s.leaveArbiter p).view i = s.view i := by
  simp only [view, leaveArbiter_views]
@[simp] theorem leaveArbiter_sessions (p : Port) : (s.leaveArbiter p).sessions = s.sessions := by unfold leaveArbiter; split <;> simp
@[simp] theorem leaveArbiter_session (p : Port) (i : Port) : (s.leaveArbiter p).session i = s.session i := by
  simp only [session, leaveArbiter_sessions]
@[simp] theorem leaveArbiter_unreserved (p : Port) : (s.leaveArbiter p).unreserved = s.unreserved := by unfold leaveArbiter; split <;> simp
@[simp] theorem leaveArbiter_axisRights (p : Port) : (s.leaveArbiter p).axisRights = s.axisRights := by unfold leaveArbiter; split <;> simp
@[simp] theorem leaveArbiter_axisRight (p : Port) (i : Axis) : (s.leaveArbiter p).axisRight i = s.axisRight i := by
  simp only [axisRight, leaveArbiter_axisRights]
@[simp] theorem leaveArbiter_links (p : Port) : (s.leaveArbiter p).links = s.links := by unfold leaveArbiter; split <;> simp
@[simp] theorem leaveArbiter_link (p : Port) (i : Port) : (s.leaveArbiter p).link i = s.link i := by
  simp only [link, leaveArbiter_links]
@[simp] theorem leaveArbiter_lastServed (p : Port) : (s.leaveArbiter p).lastServed = s.lastServed := by unfold leaveArbiter; split <;> simp

@[simp] theorem complete_pending (p : Port) (req : Request) (r : Result) (data : List Byte) : (s.complete p req r data).pending = s.pending := by 
  simp [complete]
@[simp] theorem complete_tick (p : Port) (req : Request) (r : Result) (data : List Byte) : (s.complete p req r data).tick = s.tick := by 
  simp [complete]
@[simp] theorem complete_periods (p : Port) (req : Request) (r : Result) (data : List Byte) : (s.complete p req r data).periods = s.periods := by 
  simp [complete]
@[simp] theorem complete_inReset (p : Port) (req : Request) (r : Result) (data : List Byte) : (s.complete p req r data).inReset = s.inReset := by 
  simp [complete]
@[simp] theorem complete_resetCause (p : Port) (req : Request) (r : Result) (data : List Byte) : (s.complete p req r data).resetCause = s.resetCause := by 
  simp [complete]
@[simp] theorem complete_pins (p : Port) (req : Request) (r : Result) (data : List Byte) : (s.complete p req r data).pins = s.pins := by 
  simp [complete]
@[simp] theorem complete_axes (p : Port) (req : Request) (r : Result) (data : List Byte) : (s.complete p req r data).axes = s.axes := by 
  simp [complete]
@[simp] theorem complete_axis (p : Port) (req : Request) (r : Result) (data : List Byte) (i : Axis) : (s.complete p req r data).axis i = s.axis i := by
  simp only [axis, complete_axes]
@[simp] theorem complete_slots (p : Port) (req : Request) (r : Result) (data : List Byte) : (s.complete p req r data).slots = s.slots := by 
  simp [complete]
@[simp] theorem complete_slot (p : Port) (req : Request) (r : Result) (data : List Byte) (i : SlotNo) : (s.complete p req r data).slot i = s.slot i := by
  simp only [slot, complete_slots]
@[simp] theorem complete_armLists (p : Port) (req : Request) (r : Result) (data : List Byte) : (s.complete p req r data).armLists = s.armLists := by 
  simp [complete]
@[simp] theorem complete_armList (p : Port) (req : Request) (r : Result) (data : List Byte) (i : Axis) : (s.complete p req r data).armList i = s.armList i := by
  simp only [armList, complete_armLists]
@[simp] theorem complete_held (p : Port) (req : Request) (r : Result) (data : List Byte) : (s.complete p req r data).held = s.held := by 
  simp [complete]
@[simp] theorem complete_heldBy (p : Port) (req : Request) (r : Result) (data : List Byte) (i : Port) : (s.complete p req r data).heldBy i = s.heldBy i := by
  simp only [heldBy, complete_held]
@[simp] theorem complete_tableEpoch (p : Port) (req : Request) (r : Result) (data : List Byte) : (s.complete p req r data).tableEpoch = s.tableEpoch := by 
  simp [complete]
@[simp] theorem complete_epochOf (p : Port) (req : Request) (r : Result) (data : List Byte) (i : Axis) : (s.complete p req r data).epochOf i = s.epochOf i := by
  simp only [epochOf, complete_tableEpoch]
@[simp] theorem complete_tableIn (p : Port) (req : Request) (r : Result) (data : List Byte) : (s.complete p req r data).tableIn = s.tableIn := by 
  simp [complete]
@[simp] theorem complete_inbox (p : Port) (req : Request) (r : Result) (data : List Byte) (i : Axis) : (s.complete p req r data).inbox i = s.inbox i := by
  simp only [inbox, complete_tableIn]
@[simp] theorem complete_lines (p : Port) (req : Request) (r : Result) (data : List Byte) : (s.complete p req r data).lines = s.lines := by 
  simp [complete]
@[simp] theorem complete_line (p : Port) (req : Request) (r : Result) (data : List Byte) (i : LineNo) : (s.complete p req r data).line i = s.line i := by
  simp only [line, complete_lines]
@[simp] theorem complete_notes (p : Port) (req : Request) (r : Result) (data : List Byte) : (s.complete p req r data).notes = s.notes := by 
  simp [complete]
@[simp] theorem complete_note (p : Port) (req : Request) (r : Result) (data : List Byte) (i : Port) : (s.complete p req r data).note i = s.note i := by
  simp only [note, complete_notes]
@[simp] theorem complete_views (p : Port) (req : Request) (r : Result) (data : List Byte) : (s.complete p req r data).views = s.views := by 
  simp [complete]
@[simp] theorem complete_view (p : Port) (req : Request) (r : Result) (data : List Byte) (i : Port) : (s.complete p req r data).view i = s.view i := by
  simp only [view, complete_views]
@[simp] theorem complete_sessions (p : Port) (req : Request) (r : Result) (data : List Byte) : (s.complete p req r data).sessions = s.sessions := by 
  simp [complete]
@[simp] theorem complete_session (p : Port) (req : Request) (r : Result) (data : List Byte) (i : Port) : (s.complete p req r data).session i = s.session i := by
  simp only [session, complete_sessions]
@[simp] theorem complete_unreserved (p : Port) (req : Request) (r : Result) (data : List Byte) : (s.complete p req r data).unreserved = s.unreserved := by 
  simp [complete]
@[simp] theorem complete_axisRights (p : Port) (req : Request) (r : Result) (data : List Byte) : (s.complete p req r data).axisRights = s.axisRights := by 
  simp [complete]
@[simp] theorem complete_axisRight (p : Port) (req : Request) (r : Result) (data : List Byte) (i : Axis) : (s.complete p req r data).axisRight i = s.axisRight i := by
  simp only [axisRight, complete_axisRights]

@[simp] theorem startOnWay_pending (p : Port) (req : Request) : (s.startOnWay p req).pending = s.pending := by 
  unfold startOnWay; split; simp; dsimp only; split <;> simp
@[simp] theorem startOnWay_tick (p : Port) (req : Request) : (s.startOnWay p req).tick = s.tick := by 
  unfold startOnWay; split; simp; dsimp only; split <;> simp
@[simp] theorem startOnWay_periods (p : Port) (req : Request) : (s.startOnWay p req).periods = s.periods := by 
  unfold startOnWay; split; simp; dsimp only; split <;> simp
@[simp] theorem startOnWay_inReset (p : Port) (req : Request) : (s.startOnWay p req).inReset = s.inReset := by 
  unfold startOnWay; split; simp; dsimp only; split <;> simp
@[simp] theorem startOnWay_resetCause (p : Port) (req : Request) : (s.startOnWay p req).resetCause = s.resetCause := by 
  unfold startOnWay; split; simp; dsimp only; split <;> simp
@[simp] theorem startOnWay_pins (p : Port) (req : Request) : (s.startOnWay p req).pins = s.pins := by 
  unfold startOnWay; split; simp; dsimp only; split <;> simp
@[simp] theorem startOnWay_axes (p : Port) (req : Request) : (s.startOnWay p req).axes = s.axes := by 
  unfold startOnWay; split; simp; dsimp only; split <;> simp
@[simp] theorem startOnWay_axis (p : Port) (req : Request) (i : Axis) : (s.startOnWay p req).axis i = s.axis i := by
  simp only [axis, startOnWay_axes]
@[simp] theorem startOnWay_slots (p : Port) (req : Request) : (s.startOnWay p req).slots = s.slots := by 
  unfold startOnWay; split; simp; dsimp only; split <;> simp
@[simp] theorem startOnWay_slot (p : Port) (req : Request) (i : SlotNo) : (s.startOnWay p req).slot i = s.slot i := by
  simp only [slot, startOnWay_slots]
@[simp] theorem startOnWay_armLists (p : Port) (req : Request) : (s.startOnWay p req).armLists = s.armLists := by 
  unfold startOnWay; split; simp; dsimp only; split <;> simp
@[simp] theorem startOnWay_armList (p : Port) (req : Request) (i : Axis) : (s.startOnWay p req).armList i = s.armList i := by
  simp only [armList, startOnWay_armLists]
@[simp] theorem startOnWay_held (p : Port) (req : Request) : (s.startOnWay p req).held = s.held := by 
  unfold startOnWay; split; simp; dsimp only; split <;> simp
@[simp] theorem startOnWay_heldBy (p : Port) (req : Request) (i : Port) : (s.startOnWay p req).heldBy i = s.heldBy i := by
  simp only [heldBy, startOnWay_held]
@[simp] theorem startOnWay_tableEpoch (p : Port) (req : Request) : (s.startOnWay p req).tableEpoch = s.tableEpoch := by 
  unfold startOnWay; split; simp; dsimp only; split <;> simp
@[simp] theorem startOnWay_epochOf (p : Port) (req : Request) (i : Axis) : (s.startOnWay p req).epochOf i = s.epochOf i := by
  simp only [epochOf, startOnWay_tableEpoch]
@[simp] theorem startOnWay_tableIn (p : Port) (req : Request) : (s.startOnWay p req).tableIn = s.tableIn := by 
  unfold startOnWay; split; simp; dsimp only; split <;> simp
@[simp] theorem startOnWay_inbox (p : Port) (req : Request) (i : Axis) : (s.startOnWay p req).inbox i = s.inbox i := by
  simp only [inbox, startOnWay_tableIn]
@[simp] theorem startOnWay_lines (p : Port) (req : Request) : (s.startOnWay p req).lines = s.lines := by 
  unfold startOnWay; split; simp; dsimp only; split <;> simp
@[simp] theorem startOnWay_line (p : Port) (req : Request) (i : LineNo) : (s.startOnWay p req).line i = s.line i := by
  simp only [line, startOnWay_lines]
@[simp] theorem startOnWay_notes (p : Port) (req : Request) : (s.startOnWay p req).notes = s.notes := by 
  unfold startOnWay; split; simp; dsimp only; split <;> simp
@[simp] theorem startOnWay_note (p : Port) (req : Request) (i : Port) : (s.startOnWay p req).note i = s.note i := by
  simp only [note, startOnWay_notes]
@[simp] theorem startOnWay_views (p : Port) (req : Request) : (s.startOnWay p req).views = s.views := by 
  unfold startOnWay; split; simp; dsimp only; split <;> simp
@[simp] theorem startOnWay_view (p : Port) (req : Request) (i : Port) : (s.startOnWay p req).view i = s.view i := by
  simp only [view, startOnWay_views]
@[simp] theorem startOnWay_sessions (p : Port) (req : Request) : (s.startOnWay p req).sessions = s.sessions := by 
  unfold startOnWay; split; simp; dsimp only; split <;> simp
@[simp] theorem startOnWay_session (p : Port) (req : Request) (i : Port) : (s.startOnWay p req).session i = s.session i := by
  simp only [session, startOnWay_sessions]
@[simp] theorem startOnWay_unreserved (p : Port) (req : Request) : (s.startOnWay p req).unreserved = s.unreserved := by 
  unfold startOnWay; split; simp; dsimp only; split <;> simp
@[simp] theorem startOnWay_axisRights (p : Port) (req : Request) : (s.startOnWay p req).axisRights = s.axisRights := by 
  unfold startOnWay; split; simp; dsimp only; split <;> simp
@[simp] theorem startOnWay_axisRight (p : Port) (req : Request) (i : Axis) : (s.startOnWay p req).axisRight i = s.axisRight i := by
  simp only [axisRight, startOnWay_axisRights]

/-! ### Notifications -/

@[simp] theorem hand_pending (p : Port) (r : Report) : (s.hand p r).pending = s.pending := by simp [hand]
@[simp] theorem hand_tick (p : Port) (r : Report) : (s.hand p r).tick = s.tick := by simp [hand]
@[simp] theorem hand_periods (p : Port) (r : Report) : (s.hand p r).periods = s.periods := by simp [hand]
@[simp] theorem hand_inReset (p : Port) (r : Report) : (s.hand p r).inReset = s.inReset := by simp [hand]
@[simp] theorem hand_resetCause (p : Port) (r : Report) : (s.hand p r).resetCause = s.resetCause := by simp [hand]
@[simp] theorem hand_pins (p : Port) (r : Report) : (s.hand p r).pins = s.pins := by simp [hand]
@[simp] theorem hand_axes (p : Port) (r : Report) : (s.hand p r).axes = s.axes := by simp [hand]
@[simp] theorem hand_axis (p : Port) (r : Report) (i : Axis) : (s.hand p r).axis i = s.axis i := by
  simp only [axis, hand_axes]
@[simp] theorem hand_slots (p : Port) (r : Report) : (s.hand p r).slots = s.slots := by simp [hand]
@[simp] theorem hand_slot (p : Port) (r : Report) (i : SlotNo) : (s.hand p r).slot i = s.slot i := by
  simp only [slot, hand_slots]
@[simp] theorem hand_armLists (p : Port) (r : Report) : (s.hand p r).armLists = s.armLists := by simp [hand]
@[simp] theorem hand_armList (p : Port) (r : Report) (i : Axis) : (s.hand p r).armList i = s.armList i := by
  simp only [armList, hand_armLists]
@[simp] theorem hand_held (p : Port) (r : Report) : (s.hand p r).held = s.held := by simp [hand]
@[simp] theorem hand_heldBy (p : Port) (r : Report) (i : Port) : (s.hand p r).heldBy i = s.heldBy i := by
  simp only [heldBy, hand_held]
@[simp] theorem hand_tableEpoch (p : Port) (r : Report) : (s.hand p r).tableEpoch = s.tableEpoch := by simp [hand]
@[simp] theorem hand_epochOf (p : Port) (r : Report) (i : Axis) : (s.hand p r).epochOf i = s.epochOf i := by
  simp only [epochOf, hand_tableEpoch]
@[simp] theorem hand_tableIn (p : Port) (r : Report) : (s.hand p r).tableIn = s.tableIn := by simp [hand]
@[simp] theorem hand_inbox (p : Port) (r : Report) (i : Axis) : (s.hand p r).inbox i = s.inbox i := by
  simp only [inbox, hand_tableIn]
@[simp] theorem hand_lines (p : Port) (r : Report) : (s.hand p r).lines = s.lines := by simp [hand]
@[simp] theorem hand_line (p : Port) (r : Report) (i : LineNo) : (s.hand p r).line i = s.line i := by
  simp only [line, hand_lines]
@[simp] theorem hand_views (p : Port) (r : Report) : (s.hand p r).views = s.views := by simp [hand]
@[simp] theorem hand_view (p : Port) (r : Report) (i : Port) : (s.hand p r).view i = s.view i := by
  simp only [view, hand_views]
@[simp] theorem hand_sessions (p : Port) (r : Report) : (s.hand p r).sessions = s.sessions := by simp [hand]
@[simp] theorem hand_session (p : Port) (r : Report) (i : Port) : (s.hand p r).session i = s.session i := by
  simp only [session, hand_sessions]
@[simp] theorem hand_unreserved (p : Port) (r : Report) : (s.hand p r).unreserved = s.unreserved := by simp [hand]
@[simp] theorem hand_axisRights (p : Port) (r : Report) : (s.hand p r).axisRights = s.axisRights := by simp [hand]
@[simp] theorem hand_axisRight (p : Port) (r : Report) (i : Axis) : (s.hand p r).axisRight i = s.axisRight i := by
  simp only [axisRight, hand_axisRights]
@[simp] theorem hand_links (p : Port) (r : Report) : (s.hand p r).links = s.links := by simp [hand]
@[simp] theorem hand_link (p : Port) (r : Report) (i : Port) : (s.hand p r).link i = s.link i := by
  simp only [link, hand_links]
@[simp] theorem hand_grant (p : Port) (r : Report) : (s.hand p r).grant = s.grant := by simp [hand]
@[simp] theorem hand_waiting (p : Port) (r : Report) : (s.hand p r).waiting = s.waiting := by simp [hand]
@[simp] theorem hand_lastServed (p : Port) (r : Report) : (s.hand p r).lastServed = s.lastServed := by simp [hand]

@[simp] theorem handIfHeard_pending (r : Report) (p : Port) : (s.handIfHeard r p).pending = s.pending := by unfold handIfHeard; split <;> simp
@[simp] theorem handIfHeard_tick (r : Report) (p : Port) : (s.handIfHeard r p).tick = s.tick := by unfold handIfHeard; split <;> simp
@[simp] theorem handIfHeard_periods (r : Report) (p : Port) : (s.handIfHeard r p).periods = s.periods := by unfold handIfHeard; split <;> simp
@[simp] theorem handIfHeard_inReset (r : Report) (p : Port) : (s.handIfHeard r p).inReset = s.inReset := by unfold handIfHeard; split <;> simp
@[simp] theorem handIfHeard_resetCause (r : Report) (p : Port) : (s.handIfHeard r p).resetCause = s.resetCause := by unfold handIfHeard; split <;> simp
@[simp] theorem handIfHeard_pins (r : Report) (p : Port) : (s.handIfHeard r p).pins = s.pins := by unfold handIfHeard; split <;> simp
@[simp] theorem handIfHeard_axes (r : Report) (p : Port) : (s.handIfHeard r p).axes = s.axes := by unfold handIfHeard; split <;> simp
@[simp] theorem handIfHeard_axis (r : Report) (p : Port) (i : Axis) : (s.handIfHeard r p).axis i = s.axis i := by
  simp only [axis, handIfHeard_axes]
@[simp] theorem handIfHeard_slots (r : Report) (p : Port) : (s.handIfHeard r p).slots = s.slots := by unfold handIfHeard; split <;> simp
@[simp] theorem handIfHeard_slot (r : Report) (p : Port) (i : SlotNo) : (s.handIfHeard r p).slot i = s.slot i := by
  simp only [slot, handIfHeard_slots]
@[simp] theorem handIfHeard_armLists (r : Report) (p : Port) : (s.handIfHeard r p).armLists = s.armLists := by unfold handIfHeard; split <;> simp
@[simp] theorem handIfHeard_armList (r : Report) (p : Port) (i : Axis) : (s.handIfHeard r p).armList i = s.armList i := by
  simp only [armList, handIfHeard_armLists]
@[simp] theorem handIfHeard_held (r : Report) (p : Port) : (s.handIfHeard r p).held = s.held := by unfold handIfHeard; split <;> simp
@[simp] theorem handIfHeard_heldBy (r : Report) (p : Port) (i : Port) : (s.handIfHeard r p).heldBy i = s.heldBy i := by
  simp only [heldBy, handIfHeard_held]
@[simp] theorem handIfHeard_tableEpoch (r : Report) (p : Port) : (s.handIfHeard r p).tableEpoch = s.tableEpoch := by unfold handIfHeard; split <;> simp
@[simp] theorem handIfHeard_epochOf (r : Report) (p : Port) (i : Axis) : (s.handIfHeard r p).epochOf i = s.epochOf i := by
  simp only [epochOf, handIfHeard_tableEpoch]
@[simp] theorem handIfHeard_tableIn (r : Report) (p : Port) : (s.handIfHeard r p).tableIn = s.tableIn := by unfold handIfHeard; split <;> simp
@[simp] theorem handIfHeard_inbox (r : Report) (p : Port) (i : Axis) : (s.handIfHeard r p).inbox i = s.inbox i := by
  simp only [inbox, handIfHeard_tableIn]
@[simp] theorem handIfHeard_lines (r : Report) (p : Port) : (s.handIfHeard r p).lines = s.lines := by unfold handIfHeard; split <;> simp
@[simp] theorem handIfHeard_line (r : Report) (p : Port) (i : LineNo) : (s.handIfHeard r p).line i = s.line i := by
  simp only [line, handIfHeard_lines]
@[simp] theorem handIfHeard_views (r : Report) (p : Port) : (s.handIfHeard r p).views = s.views := by unfold handIfHeard; split <;> simp
@[simp] theorem handIfHeard_view (r : Report) (p : Port) (i : Port) : (s.handIfHeard r p).view i = s.view i := by
  simp only [view, handIfHeard_views]
@[simp] theorem handIfHeard_sessions (r : Report) (p : Port) : (s.handIfHeard r p).sessions = s.sessions := by unfold handIfHeard; split <;> simp
@[simp] theorem handIfHeard_session (r : Report) (p : Port) (i : Port) : (s.handIfHeard r p).session i = s.session i := by
  simp only [session, handIfHeard_sessions]
@[simp] theorem handIfHeard_unreserved (r : Report) (p : Port) : (s.handIfHeard r p).unreserved = s.unreserved := by unfold handIfHeard; split <;> simp
@[simp] theorem handIfHeard_axisRights (r : Report) (p : Port) : (s.handIfHeard r p).axisRights = s.axisRights := by unfold handIfHeard; split <;> simp
@[simp] theorem handIfHeard_axisRight (r : Report) (p : Port) (i : Axis) : (s.handIfHeard r p).axisRight i = s.axisRight i := by
  simp only [axisRight, handIfHeard_axisRights]
@[simp] theorem handIfHeard_links (r : Report) (p : Port) : (s.handIfHeard r p).links = s.links := by unfold handIfHeard; split <;> simp
@[simp] theorem handIfHeard_link (r : Report) (p : Port) (i : Port) : (s.handIfHeard r p).link i = s.link i := by
  simp only [link, handIfHeard_links]
@[simp] theorem handIfHeard_grant (r : Report) (p : Port) : (s.handIfHeard r p).grant = s.grant := by unfold handIfHeard; split <;> simp
@[simp] theorem handIfHeard_waiting (r : Report) (p : Port) : (s.handIfHeard r p).waiting = s.waiting := by unfold handIfHeard; split <;> simp
@[simp] theorem handIfHeard_lastServed (r : Report) (p : Port) : (s.handIfHeard r p).lastServed = s.lastServed := by unfold handIfHeard; split <;> simp

@[simp] theorem route_pending (r : Report) : (s.route r).pending = s.pending := by simp [route]
@[simp] theorem route_tick (r : Report) : (s.route r).tick = s.tick := by simp [route]
@[simp] theorem route_periods (r : Report) : (s.route r).periods = s.periods := by simp [route]
@[simp] theorem route_inReset (r : Report) : (s.route r).inReset = s.inReset := by simp [route]
@[simp] theorem route_resetCause (r : Report) : (s.route r).resetCause = s.resetCause := by simp [route]
@[simp] theorem route_pins (r : Report) : (s.route r).pins = s.pins := by simp [route]
@[simp] theorem route_axes (r : Report) : (s.route r).axes = s.axes := by simp [route]
@[simp] theorem route_axis (r : Report) (i : Axis) : (s.route r).axis i = s.axis i := by
  simp only [axis, route_axes]
@[simp] theorem route_slots (r : Report) : (s.route r).slots = s.slots := by simp [route]
@[simp] theorem route_slot (r : Report) (i : SlotNo) : (s.route r).slot i = s.slot i := by
  simp only [slot, route_slots]
@[simp] theorem route_armLists (r : Report) : (s.route r).armLists = s.armLists := by simp [route]
@[simp] theorem route_armList (r : Report) (i : Axis) : (s.route r).armList i = s.armList i := by
  simp only [armList, route_armLists]
@[simp] theorem route_held (r : Report) : (s.route r).held = s.held := by simp [route]
@[simp] theorem route_heldBy (r : Report) (i : Port) : (s.route r).heldBy i = s.heldBy i := by
  simp only [heldBy, route_held]
@[simp] theorem route_tableEpoch (r : Report) : (s.route r).tableEpoch = s.tableEpoch := by simp [route]
@[simp] theorem route_epochOf (r : Report) (i : Axis) : (s.route r).epochOf i = s.epochOf i := by
  simp only [epochOf, route_tableEpoch]
@[simp] theorem route_tableIn (r : Report) : (s.route r).tableIn = s.tableIn := by simp [route]
@[simp] theorem route_inbox (r : Report) (i : Axis) : (s.route r).inbox i = s.inbox i := by
  simp only [inbox, route_tableIn]
@[simp] theorem route_lines (r : Report) : (s.route r).lines = s.lines := by simp [route]
@[simp] theorem route_line (r : Report) (i : LineNo) : (s.route r).line i = s.line i := by
  simp only [line, route_lines]
@[simp] theorem route_views (r : Report) : (s.route r).views = s.views := by simp [route]
@[simp] theorem route_view (r : Report) (i : Port) : (s.route r).view i = s.view i := by
  simp only [view, route_views]
@[simp] theorem route_sessions (r : Report) : (s.route r).sessions = s.sessions := by simp [route]
@[simp] theorem route_session (r : Report) (i : Port) : (s.route r).session i = s.session i := by
  simp only [session, route_sessions]
@[simp] theorem route_unreserved (r : Report) : (s.route r).unreserved = s.unreserved := by simp [route]
@[simp] theorem route_axisRights (r : Report) : (s.route r).axisRights = s.axisRights := by simp [route]
@[simp] theorem route_axisRight (r : Report) (i : Axis) : (s.route r).axisRight i = s.axisRight i := by
  simp only [axisRight, route_axisRights]
@[simp] theorem route_links (r : Report) : (s.route r).links = s.links := by simp [route]
@[simp] theorem route_link (r : Report) (i : Port) : (s.route r).link i = s.link i := by
  simp only [link, route_links]
@[simp] theorem route_grant (r : Report) : (s.route r).grant = s.grant := by simp [route]
@[simp] theorem route_waiting (r : Report) : (s.route r).waiting = s.waiting := by simp [route]
@[simp] theorem route_lastServed (r : Report) : (s.route r).lastServed = s.lastServed := by simp [route]

@[simp] theorem handInOrder_pending (makers : Makers) (first : Maker) (r : Report) (p : Port) : (s.handInOrder makers first r p).pending = s.pending := by
  unfold handInOrder; split <;> simp
@[simp] theorem handInOrder_tick (makers : Makers) (first : Maker) (r : Report) (p : Port) : (s.handInOrder makers first r p).tick = s.tick := by
  unfold handInOrder; split <;> simp
@[simp] theorem handInOrder_periods (makers : Makers) (first : Maker) (r : Report) (p : Port) : (s.handInOrder makers first r p).periods = s.periods := by
  unfold handInOrder; split <;> simp
@[simp] theorem handInOrder_inReset (makers : Makers) (first : Maker) (r : Report) (p : Port) : (s.handInOrder makers first r p).inReset = s.inReset := by
  unfold handInOrder; split <;> simp
@[simp] theorem handInOrder_resetCause (makers : Makers) (first : Maker) (r : Report) (p : Port) : (s.handInOrder makers first r p).resetCause = s.resetCause := by
  unfold handInOrder; split <;> simp
@[simp] theorem handInOrder_pins (makers : Makers) (first : Maker) (r : Report) (p : Port) : (s.handInOrder makers first r p).pins = s.pins := by
  unfold handInOrder; split <;> simp
@[simp] theorem handInOrder_axes (makers : Makers) (first : Maker) (r : Report) (p : Port) : (s.handInOrder makers first r p).axes = s.axes := by
  unfold handInOrder; split <;> simp
@[simp] theorem handInOrder_axis (makers : Makers) (first : Maker) (r : Report) (p : Port) (i : Axis) : (s.handInOrder makers first r p).axis i = s.axis i := by
  simp only [axis, handInOrder_axes]
@[simp] theorem handInOrder_slots (makers : Makers) (first : Maker) (r : Report) (p : Port) : (s.handInOrder makers first r p).slots = s.slots := by
  unfold handInOrder; split <;> simp
@[simp] theorem handInOrder_slot (makers : Makers) (first : Maker) (r : Report) (p : Port) (i : SlotNo) : (s.handInOrder makers first r p).slot i = s.slot i := by
  simp only [slot, handInOrder_slots]
@[simp] theorem handInOrder_armLists (makers : Makers) (first : Maker) (r : Report) (p : Port) : (s.handInOrder makers first r p).armLists = s.armLists := by
  unfold handInOrder; split <;> simp
@[simp] theorem handInOrder_armList (makers : Makers) (first : Maker) (r : Report) (p : Port) (i : Axis) : (s.handInOrder makers first r p).armList i = s.armList i := by
  simp only [armList, handInOrder_armLists]
@[simp] theorem handInOrder_held (makers : Makers) (first : Maker) (r : Report) (p : Port) : (s.handInOrder makers first r p).held = s.held := by
  unfold handInOrder; split <;> simp
@[simp] theorem handInOrder_heldBy (makers : Makers) (first : Maker) (r : Report) (p : Port) (i : Port) : (s.handInOrder makers first r p).heldBy i = s.heldBy i := by
  simp only [heldBy, handInOrder_held]
@[simp] theorem handInOrder_tableEpoch (makers : Makers) (first : Maker) (r : Report) (p : Port) : (s.handInOrder makers first r p).tableEpoch = s.tableEpoch := by
  unfold handInOrder; split <;> simp
@[simp] theorem handInOrder_epochOf (makers : Makers) (first : Maker) (r : Report) (p : Port) (i : Axis) : (s.handInOrder makers first r p).epochOf i = s.epochOf i := by
  simp only [epochOf, handInOrder_tableEpoch]
@[simp] theorem handInOrder_tableIn (makers : Makers) (first : Maker) (r : Report) (p : Port) : (s.handInOrder makers first r p).tableIn = s.tableIn := by
  unfold handInOrder; split <;> simp
@[simp] theorem handInOrder_inbox (makers : Makers) (first : Maker) (r : Report) (p : Port) (i : Axis) : (s.handInOrder makers first r p).inbox i = s.inbox i := by
  simp only [inbox, handInOrder_tableIn]
@[simp] theorem handInOrder_lines (makers : Makers) (first : Maker) (r : Report) (p : Port) : (s.handInOrder makers first r p).lines = s.lines := by
  unfold handInOrder; split <;> simp
@[simp] theorem handInOrder_line (makers : Makers) (first : Maker) (r : Report) (p : Port) (i : LineNo) : (s.handInOrder makers first r p).line i = s.line i := by
  simp only [line, handInOrder_lines]
@[simp] theorem handInOrder_views (makers : Makers) (first : Maker) (r : Report) (p : Port) : (s.handInOrder makers first r p).views = s.views := by
  unfold handInOrder; split <;> simp
@[simp] theorem handInOrder_view (makers : Makers) (first : Maker) (r : Report) (p : Port) (i : Port) : (s.handInOrder makers first r p).view i = s.view i := by
  simp only [view, handInOrder_views]
@[simp] theorem handInOrder_sessions (makers : Makers) (first : Maker) (r : Report) (p : Port) : (s.handInOrder makers first r p).sessions = s.sessions := by
  unfold handInOrder; split <;> simp
@[simp] theorem handInOrder_session (makers : Makers) (first : Maker) (r : Report) (p : Port) (i : Port) : (s.handInOrder makers first r p).session i = s.session i := by
  simp only [session, handInOrder_sessions]
@[simp] theorem handInOrder_unreserved (makers : Makers) (first : Maker) (r : Report) (p : Port) : (s.handInOrder makers first r p).unreserved = s.unreserved := by
  unfold handInOrder; split <;> simp
@[simp] theorem handInOrder_axisRights (makers : Makers) (first : Maker) (r : Report) (p : Port) : (s.handInOrder makers first r p).axisRights = s.axisRights := by
  unfold handInOrder; split <;> simp
@[simp] theorem handInOrder_axisRight (makers : Makers) (first : Maker) (r : Report) (p : Port) (i : Axis) : (s.handInOrder makers first r p).axisRight i = s.axisRight i := by
  simp only [axisRight, handInOrder_axisRights]
@[simp] theorem handInOrder_links (makers : Makers) (first : Maker) (r : Report) (p : Port) : (s.handInOrder makers first r p).links = s.links := by
  unfold handInOrder; split <;> simp
@[simp] theorem handInOrder_link (makers : Makers) (first : Maker) (r : Report) (p : Port) (i : Port) : (s.handInOrder makers first r p).link i = s.link i := by
  simp only [link, handInOrder_links]
@[simp] theorem handInOrder_grant (makers : Makers) (first : Maker) (r : Report) (p : Port) : (s.handInOrder makers first r p).grant = s.grant := by
  unfold handInOrder; split <;> simp
@[simp] theorem handInOrder_waiting (makers : Makers) (first : Maker) (r : Report) (p : Port) : (s.handInOrder makers first r p).waiting = s.waiting := by
  unfold handInOrder; split <;> simp
@[simp] theorem handInOrder_lastServed (makers : Makers) (first : Maker) (r : Report) (p : Port) : (s.handInOrder makers first r p).lastServed = s.lastServed := by
  unfold handInOrder; split <;> simp

@[simp] theorem routeIn_pending (makers : Makers) (first : Maker) (note : Option Report) : (s.routeIn makers first note).pending = s.pending := by
  cases note <;> simp [routeIn]
@[simp] theorem routeIn_tick (makers : Makers) (first : Maker) (note : Option Report) : (s.routeIn makers first note).tick = s.tick := by
  cases note <;> simp [routeIn]
@[simp] theorem routeIn_periods (makers : Makers) (first : Maker) (note : Option Report) : (s.routeIn makers first note).periods = s.periods := by
  cases note <;> simp [routeIn]
@[simp] theorem routeIn_inReset (makers : Makers) (first : Maker) (note : Option Report) : (s.routeIn makers first note).inReset = s.inReset := by
  cases note <;> simp [routeIn]
@[simp] theorem routeIn_resetCause (makers : Makers) (first : Maker) (note : Option Report) : (s.routeIn makers first note).resetCause = s.resetCause := by
  cases note <;> simp [routeIn]
@[simp] theorem routeIn_pins (makers : Makers) (first : Maker) (note : Option Report) : (s.routeIn makers first note).pins = s.pins := by
  cases note <;> simp [routeIn]
@[simp] theorem routeIn_axes (makers : Makers) (first : Maker) (note : Option Report) : (s.routeIn makers first note).axes = s.axes := by
  cases note <;> simp [routeIn]
@[simp] theorem routeIn_axis (makers : Makers) (first : Maker) (note : Option Report) (i : Axis) : (s.routeIn makers first note).axis i = s.axis i := by
  simp only [axis, routeIn_axes]
@[simp] theorem routeIn_slots (makers : Makers) (first : Maker) (note : Option Report) : (s.routeIn makers first note).slots = s.slots := by
  cases note <;> simp [routeIn]
@[simp] theorem routeIn_slot (makers : Makers) (first : Maker) (note : Option Report) (i : SlotNo) : (s.routeIn makers first note).slot i = s.slot i := by
  simp only [slot, routeIn_slots]
@[simp] theorem routeIn_armLists (makers : Makers) (first : Maker) (note : Option Report) : (s.routeIn makers first note).armLists = s.armLists := by
  cases note <;> simp [routeIn]
@[simp] theorem routeIn_armList (makers : Makers) (first : Maker) (note : Option Report) (i : Axis) : (s.routeIn makers first note).armList i = s.armList i := by
  simp only [armList, routeIn_armLists]
@[simp] theorem routeIn_held (makers : Makers) (first : Maker) (note : Option Report) : (s.routeIn makers first note).held = s.held := by
  cases note <;> simp [routeIn]
@[simp] theorem routeIn_heldBy (makers : Makers) (first : Maker) (note : Option Report) (i : Port) : (s.routeIn makers first note).heldBy i = s.heldBy i := by
  simp only [heldBy, routeIn_held]
@[simp] theorem routeIn_tableEpoch (makers : Makers) (first : Maker) (note : Option Report) : (s.routeIn makers first note).tableEpoch = s.tableEpoch := by
  cases note <;> simp [routeIn]
@[simp] theorem routeIn_epochOf (makers : Makers) (first : Maker) (note : Option Report) (i : Axis) : (s.routeIn makers first note).epochOf i = s.epochOf i := by
  simp only [epochOf, routeIn_tableEpoch]
@[simp] theorem routeIn_tableIn (makers : Makers) (first : Maker) (note : Option Report) : (s.routeIn makers first note).tableIn = s.tableIn := by
  cases note <;> simp [routeIn]
@[simp] theorem routeIn_inbox (makers : Makers) (first : Maker) (note : Option Report) (i : Axis) : (s.routeIn makers first note).inbox i = s.inbox i := by
  simp only [inbox, routeIn_tableIn]
@[simp] theorem routeIn_lines (makers : Makers) (first : Maker) (note : Option Report) : (s.routeIn makers first note).lines = s.lines := by
  cases note <;> simp [routeIn]
@[simp] theorem routeIn_line (makers : Makers) (first : Maker) (note : Option Report) (i : LineNo) : (s.routeIn makers first note).line i = s.line i := by
  simp only [line, routeIn_lines]
@[simp] theorem routeIn_views (makers : Makers) (first : Maker) (note : Option Report) : (s.routeIn makers first note).views = s.views := by
  cases note <;> simp [routeIn]
@[simp] theorem routeIn_view (makers : Makers) (first : Maker) (note : Option Report) (i : Port) : (s.routeIn makers first note).view i = s.view i := by
  simp only [view, routeIn_views]
@[simp] theorem routeIn_sessions (makers : Makers) (first : Maker) (note : Option Report) : (s.routeIn makers first note).sessions = s.sessions := by
  cases note <;> simp [routeIn]
@[simp] theorem routeIn_session (makers : Makers) (first : Maker) (note : Option Report) (i : Port) : (s.routeIn makers first note).session i = s.session i := by
  simp only [session, routeIn_sessions]
@[simp] theorem routeIn_unreserved (makers : Makers) (first : Maker) (note : Option Report) : (s.routeIn makers first note).unreserved = s.unreserved := by
  cases note <;> simp [routeIn]
@[simp] theorem routeIn_axisRights (makers : Makers) (first : Maker) (note : Option Report) : (s.routeIn makers first note).axisRights = s.axisRights := by
  cases note <;> simp [routeIn]
@[simp] theorem routeIn_axisRight (makers : Makers) (first : Maker) (note : Option Report) (i : Axis) : (s.routeIn makers first note).axisRight i = s.axisRight i := by
  simp only [axisRight, routeIn_axisRights]
@[simp] theorem routeIn_links (makers : Makers) (first : Maker) (note : Option Report) : (s.routeIn makers first note).links = s.links := by
  cases note <;> simp [routeIn]
@[simp] theorem routeIn_link (makers : Makers) (first : Maker) (note : Option Report) (i : Port) : (s.routeIn makers first note).link i = s.link i := by
  simp only [link, routeIn_links]
@[simp] theorem routeIn_grant (makers : Makers) (first : Maker) (note : Option Report) : (s.routeIn makers first note).grant = s.grant := by
  cases note <;> simp [routeIn]
@[simp] theorem routeIn_waiting (makers : Makers) (first : Maker) (note : Option Report) : (s.routeIn makers first note).waiting = s.waiting := by
  cases note <;> simp [routeIn]
@[simp] theorem routeIn_lastServed (makers : Makers) (first : Maker) (note : Option Report) : (s.routeIn makers first note).lastServed = s.lastServed := by
  cases note <;> simp [routeIn]

@[simp] theorem actLine_pending (l : LineNo) (act : LineAction) : (s.actLine l act).pending = s.pending := by simp [actLine]
@[simp] theorem actLine_tick (l : LineNo) (act : LineAction) : (s.actLine l act).tick = s.tick := by simp [actLine]
@[simp] theorem actLine_periods (l : LineNo) (act : LineAction) : (s.actLine l act).periods = s.periods := by simp [actLine]
@[simp] theorem actLine_inReset (l : LineNo) (act : LineAction) : (s.actLine l act).inReset = s.inReset := by simp [actLine]
@[simp] theorem actLine_resetCause (l : LineNo) (act : LineAction) : (s.actLine l act).resetCause = s.resetCause := by simp [actLine]
@[simp] theorem actLine_pins (l : LineNo) (act : LineAction) : (s.actLine l act).pins = s.pins := by simp [actLine]
@[simp] theorem actLine_axes (l : LineNo) (act : LineAction) : (s.actLine l act).axes = s.axes := by simp [actLine]
@[simp] theorem actLine_axis (l : LineNo) (act : LineAction) (i : Axis) : (s.actLine l act).axis i = s.axis i := by
  simp only [axis, actLine_axes]
@[simp] theorem actLine_slots (l : LineNo) (act : LineAction) : (s.actLine l act).slots = s.slots := by simp [actLine]
@[simp] theorem actLine_slot (l : LineNo) (act : LineAction) (i : SlotNo) : (s.actLine l act).slot i = s.slot i := by
  simp only [slot, actLine_slots]
@[simp] theorem actLine_armLists (l : LineNo) (act : LineAction) : (s.actLine l act).armLists = s.armLists := by simp [actLine]
@[simp] theorem actLine_armList (l : LineNo) (act : LineAction) (i : Axis) : (s.actLine l act).armList i = s.armList i := by
  simp only [armList, actLine_armLists]
@[simp] theorem actLine_held (l : LineNo) (act : LineAction) : (s.actLine l act).held = s.held := by simp [actLine]
@[simp] theorem actLine_heldBy (l : LineNo) (act : LineAction) (i : Port) : (s.actLine l act).heldBy i = s.heldBy i := by
  simp only [heldBy, actLine_held]
@[simp] theorem actLine_tableEpoch (l : LineNo) (act : LineAction) : (s.actLine l act).tableEpoch = s.tableEpoch := by simp [actLine]
@[simp] theorem actLine_epochOf (l : LineNo) (act : LineAction) (i : Axis) : (s.actLine l act).epochOf i = s.epochOf i := by
  simp only [epochOf, actLine_tableEpoch]
@[simp] theorem actLine_tableIn (l : LineNo) (act : LineAction) : (s.actLine l act).tableIn = s.tableIn := by simp [actLine]
@[simp] theorem actLine_inbox (l : LineNo) (act : LineAction) (i : Axis) : (s.actLine l act).inbox i = s.inbox i := by
  simp only [inbox, actLine_tableIn]
@[simp] theorem actLine_notes (l : LineNo) (act : LineAction) : (s.actLine l act).notes = s.notes := by simp [actLine]
@[simp] theorem actLine_note (l : LineNo) (act : LineAction) (i : Port) : (s.actLine l act).note i = s.note i := by
  simp only [note, actLine_notes]
@[simp] theorem actLine_views (l : LineNo) (act : LineAction) : (s.actLine l act).views = s.views := by simp [actLine]
@[simp] theorem actLine_view (l : LineNo) (act : LineAction) (i : Port) : (s.actLine l act).view i = s.view i := by
  simp only [view, actLine_views]
@[simp] theorem actLine_sessions (l : LineNo) (act : LineAction) : (s.actLine l act).sessions = s.sessions := by simp [actLine]
@[simp] theorem actLine_session (l : LineNo) (act : LineAction) (i : Port) : (s.actLine l act).session i = s.session i := by
  simp only [session, actLine_sessions]
@[simp] theorem actLine_unreserved (l : LineNo) (act : LineAction) : (s.actLine l act).unreserved = s.unreserved := by simp [actLine]
@[simp] theorem actLine_axisRights (l : LineNo) (act : LineAction) : (s.actLine l act).axisRights = s.axisRights := by simp [actLine]
@[simp] theorem actLine_axisRight (l : LineNo) (act : LineAction) (i : Axis) : (s.actLine l act).axisRight i = s.axisRight i := by
  simp only [axisRight, actLine_axisRights]
@[simp] theorem actLine_links (l : LineNo) (act : LineAction) : (s.actLine l act).links = s.links := by simp [actLine]
@[simp] theorem actLine_link (l : LineNo) (act : LineAction) (i : Port) : (s.actLine l act).link i = s.link i := by
  simp only [link, actLine_links]
@[simp] theorem actLine_grant (l : LineNo) (act : LineAction) : (s.actLine l act).grant = s.grant := by simp [actLine]
@[simp] theorem actLine_waiting (l : LineNo) (act : LineAction) : (s.actLine l act).waiting = s.waiting := by simp [actLine]
@[simp] theorem actLine_lastServed (l : LineNo) (act : LineAction) : (s.actLine l act).lastServed = s.lastServed := by simp [actLine]

end State

end Sys2Proof.Machine
end

