-- ==== Sys2Proof/Laws/Table.lean ====
section
/-!
SUPPORT. What the trigger table's operations leave as it is, one lemma per field.
-/
namespace Sys2Proof.Machine

namespace State

variable (s : State)

/-! ### Slots and lists -/

@[simp] theorem place_pending (a : Axis) (n : SlotNo) : (s.place a n).pending = s.pending := by simp [place]
@[simp] theorem place_tick (a : Axis) (n : SlotNo) : (s.place a n).tick = s.tick := by simp [place]
@[simp] theorem place_periods (a : Axis) (n : SlotNo) : (s.place a n).periods = s.periods := by simp [place]
@[simp] theorem place_inReset (a : Axis) (n : SlotNo) : (s.place a n).inReset = s.inReset := by simp [place]
@[simp] theorem place_resetCause (a : Axis) (n : SlotNo) : (s.place a n).resetCause = s.resetCause := by simp [place]
@[simp] theorem place_pins (a : Axis) (n : SlotNo) : (s.place a n).pins = s.pins := by simp [place]
@[simp] theorem place_axes (a : Axis) (n : SlotNo) : (s.place a n).axes = s.axes := by simp [place]
@[simp] theorem place_axis (a : Axis) (n : SlotNo) (i : Axis) : (s.place a n).axis i = s.axis i := by
  simp only [axis, place_axes]
@[simp] theorem place_slots (a : Axis) (n : SlotNo) : (s.place a n).slots = s.slots := by simp [place]
@[simp] theorem place_slot (a : Axis) (n : SlotNo) (i : SlotNo) : (s.place a n).slot i = s.slot i := by
  simp only [slot, place_slots]
@[simp] theorem place_held (a : Axis) (n : SlotNo) : (s.place a n).held = s.held := by simp [place]
@[simp] theorem place_heldBy (a : Axis) (n : SlotNo) (i : Port) : (s.place a n).heldBy i = s.heldBy i := by
  simp only [heldBy, place_held]
@[simp] theorem place_tableEpoch (a : Axis) (n : SlotNo) : (s.place a n).tableEpoch = s.tableEpoch := by simp [place]
@[simp] theorem place_epochOf (a : Axis) (n : SlotNo) (i : Axis) : (s.place a n).epochOf i = s.epochOf i := by
  simp only [epochOf, place_tableEpoch]
@[simp] theorem place_tableIn (a : Axis) (n : SlotNo) : (s.place a n).tableIn = s.tableIn := by simp [place]
@[simp] theorem place_inbox (a : Axis) (n : SlotNo) (i : Axis) : (s.place a n).inbox i = s.inbox i := by
  simp only [inbox, place_tableIn]
@[simp] theorem place_lines (a : Axis) (n : SlotNo) : (s.place a n).lines = s.lines := by simp [place]
@[simp] theorem place_line (a : Axis) (n : SlotNo) (i : LineNo) : (s.place a n).line i = s.line i := by
  simp only [line, place_lines]
@[simp] theorem place_notes (a : Axis) (n : SlotNo) : (s.place a n).notes = s.notes := by simp [place]
@[simp] theorem place_note (a : Axis) (n : SlotNo) (i : Port) : (s.place a n).note i = s.note i := by
  simp only [note, place_notes]
@[simp] theorem place_views (a : Axis) (n : SlotNo) : (s.place a n).views = s.views := by simp [place]
@[simp] theorem place_view (a : Axis) (n : SlotNo) (i : Port) : (s.place a n).view i = s.view i := by
  simp only [view, place_views]
@[simp] theorem place_sessions (a : Axis) (n : SlotNo) : (s.place a n).sessions = s.sessions := by simp [place]
@[simp] theorem place_session (a : Axis) (n : SlotNo) (i : Port) : (s.place a n).session i = s.session i := by
  simp only [session, place_sessions]
@[simp] theorem place_unreserved (a : Axis) (n : SlotNo) : (s.place a n).unreserved = s.unreserved := by simp [place]
@[simp] theorem place_axisRights (a : Axis) (n : SlotNo) : (s.place a n).axisRights = s.axisRights := by simp [place]
@[simp] theorem place_axisRight (a : Axis) (n : SlotNo) (i : Axis) : (s.place a n).axisRight i = s.axisRight i := by
  simp only [axisRight, place_axisRights]
@[simp] theorem place_links (a : Axis) (n : SlotNo) : (s.place a n).links = s.links := by simp [place]
@[simp] theorem place_link (a : Axis) (n : SlotNo) (i : Port) : (s.place a n).link i = s.link i := by
  simp only [link, place_links]
@[simp] theorem place_grant (a : Axis) (n : SlotNo) : (s.place a n).grant = s.grant := by simp [place]
@[simp] theorem place_waiting (a : Axis) (n : SlotNo) : (s.place a n).waiting = s.waiting := by simp [place]
@[simp] theorem place_lastServed (a : Axis) (n : SlotNo) : (s.place a n).lastServed = s.lastServed := by simp [place]

@[simp] theorem unplace_pending (a : Axis) (n : SlotNo) : (s.unplace a n).pending = s.pending := by simp [unplace]
@[simp] theorem unplace_tick (a : Axis) (n : SlotNo) : (s.unplace a n).tick = s.tick := by simp [unplace]
@[simp] theorem unplace_periods (a : Axis) (n : SlotNo) : (s.unplace a n).periods = s.periods := by simp [unplace]
@[simp] theorem unplace_inReset (a : Axis) (n : SlotNo) : (s.unplace a n).inReset = s.inReset := by simp [unplace]
@[simp] theorem unplace_resetCause (a : Axis) (n : SlotNo) : (s.unplace a n).resetCause = s.resetCause := by simp [unplace]
@[simp] theorem unplace_pins (a : Axis) (n : SlotNo) : (s.unplace a n).pins = s.pins := by simp [unplace]
@[simp] theorem unplace_axes (a : Axis) (n : SlotNo) : (s.unplace a n).axes = s.axes := by simp [unplace]
@[simp] theorem unplace_axis (a : Axis) (n : SlotNo) (i : Axis) : (s.unplace a n).axis i = s.axis i := by
  simp only [axis, unplace_axes]
@[simp] theorem unplace_slots (a : Axis) (n : SlotNo) : (s.unplace a n).slots = s.slots := by simp [unplace]
@[simp] theorem unplace_slot (a : Axis) (n : SlotNo) (i : SlotNo) : (s.unplace a n).slot i = s.slot i := by
  simp only [slot, unplace_slots]
@[simp] theorem unplace_held (a : Axis) (n : SlotNo) : (s.unplace a n).held = s.held := by simp [unplace]
@[simp] theorem unplace_heldBy (a : Axis) (n : SlotNo) (i : Port) : (s.unplace a n).heldBy i = s.heldBy i := by
  simp only [heldBy, unplace_held]
@[simp] theorem unplace_tableEpoch (a : Axis) (n : SlotNo) : (s.unplace a n).tableEpoch = s.tableEpoch := by simp [unplace]
@[simp] theorem unplace_epochOf (a : Axis) (n : SlotNo) (i : Axis) : (s.unplace a n).epochOf i = s.epochOf i := by
  simp only [epochOf, unplace_tableEpoch]
@[simp] theorem unplace_tableIn (a : Axis) (n : SlotNo) : (s.unplace a n).tableIn = s.tableIn := by simp [unplace]
@[simp] theorem unplace_inbox (a : Axis) (n : SlotNo) (i : Axis) : (s.unplace a n).inbox i = s.inbox i := by
  simp only [inbox, unplace_tableIn]
@[simp] theorem unplace_lines (a : Axis) (n : SlotNo) : (s.unplace a n).lines = s.lines := by simp [unplace]
@[simp] theorem unplace_line (a : Axis) (n : SlotNo) (i : LineNo) : (s.unplace a n).line i = s.line i := by
  simp only [line, unplace_lines]
@[simp] theorem unplace_notes (a : Axis) (n : SlotNo) : (s.unplace a n).notes = s.notes := by simp [unplace]
@[simp] theorem unplace_note (a : Axis) (n : SlotNo) (i : Port) : (s.unplace a n).note i = s.note i := by
  simp only [note, unplace_notes]
@[simp] theorem unplace_views (a : Axis) (n : SlotNo) : (s.unplace a n).views = s.views := by simp [unplace]
@[simp] theorem unplace_view (a : Axis) (n : SlotNo) (i : Port) : (s.unplace a n).view i = s.view i := by
  simp only [view, unplace_views]
@[simp] theorem unplace_sessions (a : Axis) (n : SlotNo) : (s.unplace a n).sessions = s.sessions := by simp [unplace]
@[simp] theorem unplace_session (a : Axis) (n : SlotNo) (i : Port) : (s.unplace a n).session i = s.session i := by
  simp only [session, unplace_sessions]
@[simp] theorem unplace_unreserved (a : Axis) (n : SlotNo) : (s.unplace a n).unreserved = s.unreserved := by simp [unplace]
@[simp] theorem unplace_axisRights (a : Axis) (n : SlotNo) : (s.unplace a n).axisRights = s.axisRights := by simp [unplace]
@[simp] theorem unplace_axisRight (a : Axis) (n : SlotNo) (i : Axis) : (s.unplace a n).axisRight i = s.axisRight i := by
  simp only [axisRight, unplace_axisRights]
@[simp] theorem unplace_links (a : Axis) (n : SlotNo) : (s.unplace a n).links = s.links := by simp [unplace]
@[simp] theorem unplace_link (a : Axis) (n : SlotNo) (i : Port) : (s.unplace a n).link i = s.link i := by
  simp only [link, unplace_links]
@[simp] theorem unplace_grant (a : Axis) (n : SlotNo) : (s.unplace a n).grant = s.grant := by simp [unplace]
@[simp] theorem unplace_waiting (a : Axis) (n : SlotNo) : (s.unplace a n).waiting = s.waiting := by simp [unplace]
@[simp] theorem unplace_lastServed (a : Axis) (n : SlotNo) : (s.unplace a n).lastServed = s.lastServed := by simp [unplace]

@[simp] theorem arm_pending (n : SlotNo) (t : Trigger) : (s.arm n t).pending = s.pending := by simp [arm]
@[simp] theorem arm_tick (n : SlotNo) (t : Trigger) : (s.arm n t).tick = s.tick := by simp [arm]
@[simp] theorem arm_periods (n : SlotNo) (t : Trigger) : (s.arm n t).periods = s.periods := by simp [arm]
@[simp] theorem arm_inReset (n : SlotNo) (t : Trigger) : (s.arm n t).inReset = s.inReset := by simp [arm]
@[simp] theorem arm_resetCause (n : SlotNo) (t : Trigger) : (s.arm n t).resetCause = s.resetCause := by simp [arm]
@[simp] theorem arm_pins (n : SlotNo) (t : Trigger) : (s.arm n t).pins = s.pins := by simp [arm]
@[simp] theorem arm_axes (n : SlotNo) (t : Trigger) : (s.arm n t).axes = s.axes := by simp [arm]
@[simp] theorem arm_axis (n : SlotNo) (t : Trigger) (i : Axis) : (s.arm n t).axis i = s.axis i := by
  simp only [axis, arm_axes]
@[simp] theorem arm_held (n : SlotNo) (t : Trigger) : (s.arm n t).held = s.held := by simp [arm]
@[simp] theorem arm_heldBy (n : SlotNo) (t : Trigger) (i : Port) : (s.arm n t).heldBy i = s.heldBy i := by
  simp only [heldBy, arm_held]
@[simp] theorem arm_tableEpoch (n : SlotNo) (t : Trigger) : (s.arm n t).tableEpoch = s.tableEpoch := by simp [arm]
@[simp] theorem arm_epochOf (n : SlotNo) (t : Trigger) (i : Axis) : (s.arm n t).epochOf i = s.epochOf i := by
  simp only [epochOf, arm_tableEpoch]
@[simp] theorem arm_tableIn (n : SlotNo) (t : Trigger) : (s.arm n t).tableIn = s.tableIn := by simp [arm]
@[simp] theorem arm_inbox (n : SlotNo) (t : Trigger) (i : Axis) : (s.arm n t).inbox i = s.inbox i := by
  simp only [inbox, arm_tableIn]
@[simp] theorem arm_lines (n : SlotNo) (t : Trigger) : (s.arm n t).lines = s.lines := by simp [arm]
@[simp] theorem arm_line (n : SlotNo) (t : Trigger) (i : LineNo) : (s.arm n t).line i = s.line i := by
  simp only [line, arm_lines]
@[simp] theorem arm_notes (n : SlotNo) (t : Trigger) : (s.arm n t).notes = s.notes := by simp [arm]
@[simp] theorem arm_note (n : SlotNo) (t : Trigger) (i : Port) : (s.arm n t).note i = s.note i := by
  simp only [note, arm_notes]
@[simp] theorem arm_views (n : SlotNo) (t : Trigger) : (s.arm n t).views = s.views := by simp [arm]
@[simp] theorem arm_view (n : SlotNo) (t : Trigger) (i : Port) : (s.arm n t).view i = s.view i := by
  simp only [view, arm_views]
@[simp] theorem arm_sessions (n : SlotNo) (t : Trigger) : (s.arm n t).sessions = s.sessions := by simp [arm]
@[simp] theorem arm_session (n : SlotNo) (t : Trigger) (i : Port) : (s.arm n t).session i = s.session i := by
  simp only [session, arm_sessions]
@[simp] theorem arm_unreserved (n : SlotNo) (t : Trigger) : (s.arm n t).unreserved = s.unreserved := by simp [arm]
@[simp] theorem arm_axisRights (n : SlotNo) (t : Trigger) : (s.arm n t).axisRights = s.axisRights := by simp [arm]
@[simp] theorem arm_axisRight (n : SlotNo) (t : Trigger) (i : Axis) : (s.arm n t).axisRight i = s.axisRight i := by
  simp only [axisRight, arm_axisRights]
@[simp] theorem arm_links (n : SlotNo) (t : Trigger) : (s.arm n t).links = s.links := by simp [arm]
@[simp] theorem arm_link (n : SlotNo) (t : Trigger) (i : Port) : (s.arm n t).link i = s.link i := by
  simp only [link, arm_links]
@[simp] theorem arm_grant (n : SlotNo) (t : Trigger) : (s.arm n t).grant = s.grant := by simp [arm]
@[simp] theorem arm_waiting (n : SlotNo) (t : Trigger) : (s.arm n t).waiting = s.waiting := by simp [arm]
@[simp] theorem arm_lastServed (n : SlotNo) (t : Trigger) : (s.arm n t).lastServed = s.lastServed := by simp [arm]

@[simp] theorem unarm_pending (n : SlotNo) (t : Trigger) (st : SlotState) : (s.unarm n t st).pending = s.pending := by 
  simp [unarm]
@[simp] theorem unarm_tick (n : SlotNo) (t : Trigger) (st : SlotState) : (s.unarm n t st).tick = s.tick := by 
  simp [unarm]
@[simp] theorem unarm_periods (n : SlotNo) (t : Trigger) (st : SlotState) : (s.unarm n t st).periods = s.periods := by 
  simp [unarm]
@[simp] theorem unarm_inReset (n : SlotNo) (t : Trigger) (st : SlotState) : (s.unarm n t st).inReset = s.inReset := by 
  simp [unarm]
@[simp] theorem unarm_resetCause (n : SlotNo) (t : Trigger) (st : SlotState) : (s.unarm n t st).resetCause = s.resetCause := by 
  simp [unarm]
@[simp] theorem unarm_pins (n : SlotNo) (t : Trigger) (st : SlotState) : (s.unarm n t st).pins = s.pins := by 
  simp [unarm]
@[simp] theorem unarm_axes (n : SlotNo) (t : Trigger) (st : SlotState) : (s.unarm n t st).axes = s.axes := by 
  simp [unarm]
@[simp] theorem unarm_axis (n : SlotNo) (t : Trigger) (st : SlotState) (i : Axis) : (s.unarm n t st).axis i = s.axis i := by
  simp only [axis, unarm_axes]
@[simp] theorem unarm_held (n : SlotNo) (t : Trigger) (st : SlotState) : (s.unarm n t st).held = s.held := by 
  simp [unarm]
@[simp] theorem unarm_heldBy (n : SlotNo) (t : Trigger) (st : SlotState) (i : Port) : (s.unarm n t st).heldBy i = s.heldBy i := by
  simp only [heldBy, unarm_held]
@[simp] theorem unarm_tableEpoch (n : SlotNo) (t : Trigger) (st : SlotState) : (s.unarm n t st).tableEpoch = s.tableEpoch := by 
  simp [unarm]
@[simp] theorem unarm_epochOf (n : SlotNo) (t : Trigger) (st : SlotState) (i : Axis) : (s.unarm n t st).epochOf i = s.epochOf i := by
  simp only [epochOf, unarm_tableEpoch]
@[simp] theorem unarm_tableIn (n : SlotNo) (t : Trigger) (st : SlotState) : (s.unarm n t st).tableIn = s.tableIn := by 
  simp [unarm]
@[simp] theorem unarm_inbox (n : SlotNo) (t : Trigger) (st : SlotState) (i : Axis) : (s.unarm n t st).inbox i = s.inbox i := by
  simp only [inbox, unarm_tableIn]
@[simp] theorem unarm_lines (n : SlotNo) (t : Trigger) (st : SlotState) : (s.unarm n t st).lines = s.lines := by 
  simp [unarm]
@[simp] theorem unarm_line (n : SlotNo) (t : Trigger) (st : SlotState) (i : LineNo) : (s.unarm n t st).line i = s.line i := by
  simp only [line, unarm_lines]
@[simp] theorem unarm_notes (n : SlotNo) (t : Trigger) (st : SlotState) : (s.unarm n t st).notes = s.notes := by 
  simp [unarm]
@[simp] theorem unarm_note (n : SlotNo) (t : Trigger) (st : SlotState) (i : Port) : (s.unarm n t st).note i = s.note i := by
  simp only [note, unarm_notes]
@[simp] theorem unarm_views (n : SlotNo) (t : Trigger) (st : SlotState) : (s.unarm n t st).views = s.views := by 
  simp [unarm]
@[simp] theorem unarm_view (n : SlotNo) (t : Trigger) (st : SlotState) (i : Port) : (s.unarm n t st).view i = s.view i := by
  simp only [view, unarm_views]
@[simp] theorem unarm_sessions (n : SlotNo) (t : Trigger) (st : SlotState) : (s.unarm n t st).sessions = s.sessions := by 
  simp [unarm]
@[simp] theorem unarm_session (n : SlotNo) (t : Trigger) (st : SlotState) (i : Port) : (s.unarm n t st).session i = s.session i := by
  simp only [session, unarm_sessions]
@[simp] theorem unarm_unreserved (n : SlotNo) (t : Trigger) (st : SlotState) : (s.unarm n t st).unreserved = s.unreserved := by 
  simp [unarm]
@[simp] theorem unarm_axisRights (n : SlotNo) (t : Trigger) (st : SlotState) : (s.unarm n t st).axisRights = s.axisRights := by 
  simp [unarm]
@[simp] theorem unarm_axisRight (n : SlotNo) (t : Trigger) (st : SlotState) (i : Axis) : (s.unarm n t st).axisRight i = s.axisRight i := by
  simp only [axisRight, unarm_axisRights]
@[simp] theorem unarm_links (n : SlotNo) (t : Trigger) (st : SlotState) : (s.unarm n t st).links = s.links := by 
  simp [unarm]
@[simp] theorem unarm_link (n : SlotNo) (t : Trigger) (st : SlotState) (i : Port) : (s.unarm n t st).link i = s.link i := by
  simp only [link, unarm_links]
@[simp] theorem unarm_grant (n : SlotNo) (t : Trigger) (st : SlotState) : (s.unarm n t st).grant = s.grant := by 
  simp [unarm]
@[simp] theorem unarm_waiting (n : SlotNo) (t : Trigger) (st : SlotState) : (s.unarm n t st).waiting = s.waiting := by 
  simp [unarm]
@[simp] theorem unarm_lastServed (n : SlotNo) (t : Trigger) (st : SlotState) : (s.unarm n t st).lastServed = s.lastServed := by 
  simp [unarm]

@[simp] theorem freeSlot_pending (p : Port) (n : SlotNo) : (s.freeSlot p n).pending = s.pending := by simp [freeSlot]
@[simp] theorem freeSlot_tick (p : Port) (n : SlotNo) : (s.freeSlot p n).tick = s.tick := by simp [freeSlot]
@[simp] theorem freeSlot_periods (p : Port) (n : SlotNo) : (s.freeSlot p n).periods = s.periods := by simp [freeSlot]
@[simp] theorem freeSlot_inReset (p : Port) (n : SlotNo) : (s.freeSlot p n).inReset = s.inReset := by simp [freeSlot]
@[simp] theorem freeSlot_resetCause (p : Port) (n : SlotNo) : (s.freeSlot p n).resetCause = s.resetCause := by simp [freeSlot]
@[simp] theorem freeSlot_pins (p : Port) (n : SlotNo) : (s.freeSlot p n).pins = s.pins := by simp [freeSlot]
@[simp] theorem freeSlot_axes (p : Port) (n : SlotNo) : (s.freeSlot p n).axes = s.axes := by simp [freeSlot]
@[simp] theorem freeSlot_axis (p : Port) (n : SlotNo) (i : Axis) : (s.freeSlot p n).axis i = s.axis i := by
  simp only [axis, freeSlot_axes]
@[simp] theorem freeSlot_armLists (p : Port) (n : SlotNo) : (s.freeSlot p n).armLists = s.armLists := by simp [freeSlot]
@[simp] theorem freeSlot_armList (p : Port) (n : SlotNo) (i : Axis) : (s.freeSlot p n).armList i = s.armList i := by
  simp only [armList, freeSlot_armLists]
@[simp] theorem freeSlot_tableEpoch (p : Port) (n : SlotNo) : (s.freeSlot p n).tableEpoch = s.tableEpoch := by simp [freeSlot]
@[simp] theorem freeSlot_epochOf (p : Port) (n : SlotNo) (i : Axis) : (s.freeSlot p n).epochOf i = s.epochOf i := by
  simp only [epochOf, freeSlot_tableEpoch]
@[simp] theorem freeSlot_tableIn (p : Port) (n : SlotNo) : (s.freeSlot p n).tableIn = s.tableIn := by simp [freeSlot]
@[simp] theorem freeSlot_inbox (p : Port) (n : SlotNo) (i : Axis) : (s.freeSlot p n).inbox i = s.inbox i := by
  simp only [inbox, freeSlot_tableIn]
@[simp] theorem freeSlot_lines (p : Port) (n : SlotNo) : (s.freeSlot p n).lines = s.lines := by simp [freeSlot]
@[simp] theorem freeSlot_line (p : Port) (n : SlotNo) (i : LineNo) : (s.freeSlot p n).line i = s.line i := by
  simp only [line, freeSlot_lines]
@[simp] theorem freeSlot_notes (p : Port) (n : SlotNo) : (s.freeSlot p n).notes = s.notes := by simp [freeSlot]
@[simp] theorem freeSlot_note (p : Port) (n : SlotNo) (i : Port) : (s.freeSlot p n).note i = s.note i := by
  simp only [note, freeSlot_notes]
@[simp] theorem freeSlot_views (p : Port) (n : SlotNo) : (s.freeSlot p n).views = s.views := by simp [freeSlot]
@[simp] theorem freeSlot_view (p : Port) (n : SlotNo) (i : Port) : (s.freeSlot p n).view i = s.view i := by
  simp only [view, freeSlot_views]
@[simp] theorem freeSlot_sessions (p : Port) (n : SlotNo) : (s.freeSlot p n).sessions = s.sessions := by simp [freeSlot]
@[simp] theorem freeSlot_session (p : Port) (n : SlotNo) (i : Port) : (s.freeSlot p n).session i = s.session i := by
  simp only [session, freeSlot_sessions]
@[simp] theorem freeSlot_unreserved (p : Port) (n : SlotNo) : (s.freeSlot p n).unreserved = s.unreserved := by simp [freeSlot]
@[simp] theorem freeSlot_axisRights (p : Port) (n : SlotNo) : (s.freeSlot p n).axisRights = s.axisRights := by simp [freeSlot]
@[simp] theorem freeSlot_axisRight (p : Port) (n : SlotNo) (i : Axis) : (s.freeSlot p n).axisRight i = s.axisRight i := by
  simp only [axisRight, freeSlot_axisRights]
@[simp] theorem freeSlot_links (p : Port) (n : SlotNo) : (s.freeSlot p n).links = s.links := by simp [freeSlot]
@[simp] theorem freeSlot_link (p : Port) (n : SlotNo) (i : Port) : (s.freeSlot p n).link i = s.link i := by
  simp only [link, freeSlot_links]
@[simp] theorem freeSlot_grant (p : Port) (n : SlotNo) : (s.freeSlot p n).grant = s.grant := by simp [freeSlot]
@[simp] theorem freeSlot_waiting (p : Port) (n : SlotNo) : (s.freeSlot p n).waiting = s.waiting := by simp [freeSlot]
@[simp] theorem freeSlot_lastServed (p : Port) (n : SlotNo) : (s.freeSlot p n).lastServed = s.lastServed := by simp [freeSlot]

@[simp] theorem settleGiveUp_pending (n : SlotNo) (t : Trigger) : (s.settleGiveUp n t).pending = s.pending := by 
  unfold settleGiveUp; split <;> simp
@[simp] theorem settleGiveUp_tick (n : SlotNo) (t : Trigger) : (s.settleGiveUp n t).tick = s.tick := by 
  unfold settleGiveUp; split <;> simp
@[simp] theorem settleGiveUp_periods (n : SlotNo) (t : Trigger) : (s.settleGiveUp n t).periods = s.periods := by 
  unfold settleGiveUp; split <;> simp
@[simp] theorem settleGiveUp_inReset (n : SlotNo) (t : Trigger) : (s.settleGiveUp n t).inReset = s.inReset := by 
  unfold settleGiveUp; split <;> simp
@[simp] theorem settleGiveUp_resetCause (n : SlotNo) (t : Trigger) : (s.settleGiveUp n t).resetCause = s.resetCause := by 
  unfold settleGiveUp; split <;> simp
@[simp] theorem settleGiveUp_pins (n : SlotNo) (t : Trigger) : (s.settleGiveUp n t).pins = s.pins := by 
  unfold settleGiveUp; split <;> simp
@[simp] theorem settleGiveUp_axes (n : SlotNo) (t : Trigger) : (s.settleGiveUp n t).axes = s.axes := by 
  unfold settleGiveUp; split <;> simp
@[simp] theorem settleGiveUp_axis (n : SlotNo) (t : Trigger) (i : Axis) : (s.settleGiveUp n t).axis i = s.axis i := by
  simp only [axis, settleGiveUp_axes]
@[simp] theorem settleGiveUp_armLists (n : SlotNo) (t : Trigger) : (s.settleGiveUp n t).armLists = s.armLists := by 
  unfold settleGiveUp; split <;> simp
@[simp] theorem settleGiveUp_armList (n : SlotNo) (t : Trigger) (i : Axis) : (s.settleGiveUp n t).armList i = s.armList i := by
  simp only [armList, settleGiveUp_armLists]
@[simp] theorem settleGiveUp_tableEpoch (n : SlotNo) (t : Trigger) : (s.settleGiveUp n t).tableEpoch = s.tableEpoch := by 
  unfold settleGiveUp; split <;> simp
@[simp] theorem settleGiveUp_epochOf (n : SlotNo) (t : Trigger) (i : Axis) : (s.settleGiveUp n t).epochOf i = s.epochOf i := by
  simp only [epochOf, settleGiveUp_tableEpoch]
@[simp] theorem settleGiveUp_tableIn (n : SlotNo) (t : Trigger) : (s.settleGiveUp n t).tableIn = s.tableIn := by 
  unfold settleGiveUp; split <;> simp
@[simp] theorem settleGiveUp_inbox (n : SlotNo) (t : Trigger) (i : Axis) : (s.settleGiveUp n t).inbox i = s.inbox i := by
  simp only [inbox, settleGiveUp_tableIn]
@[simp] theorem settleGiveUp_lines (n : SlotNo) (t : Trigger) : (s.settleGiveUp n t).lines = s.lines := by 
  unfold settleGiveUp; split <;> simp
@[simp] theorem settleGiveUp_line (n : SlotNo) (t : Trigger) (i : LineNo) : (s.settleGiveUp n t).line i = s.line i := by
  simp only [line, settleGiveUp_lines]
@[simp] theorem settleGiveUp_notes (n : SlotNo) (t : Trigger) : (s.settleGiveUp n t).notes = s.notes := by 
  unfold settleGiveUp; split <;> simp
@[simp] theorem settleGiveUp_note (n : SlotNo) (t : Trigger) (i : Port) : (s.settleGiveUp n t).note i = s.note i := by
  simp only [note, settleGiveUp_notes]
@[simp] theorem settleGiveUp_views (n : SlotNo) (t : Trigger) : (s.settleGiveUp n t).views = s.views := by 
  unfold settleGiveUp; split <;> simp
@[simp] theorem settleGiveUp_view (n : SlotNo) (t : Trigger) (i : Port) : (s.settleGiveUp n t).view i = s.view i := by
  simp only [view, settleGiveUp_views]
@[simp] theorem settleGiveUp_sessions (n : SlotNo) (t : Trigger) : (s.settleGiveUp n t).sessions = s.sessions := by 
  unfold settleGiveUp; split <;> simp
@[simp] theorem settleGiveUp_session (n : SlotNo) (t : Trigger) (i : Port) : (s.settleGiveUp n t).session i = s.session i := by
  simp only [session, settleGiveUp_sessions]
@[simp] theorem settleGiveUp_unreserved (n : SlotNo) (t : Trigger) : (s.settleGiveUp n t).unreserved = s.unreserved := by 
  unfold settleGiveUp; split <;> simp
@[simp] theorem settleGiveUp_axisRights (n : SlotNo) (t : Trigger) : (s.settleGiveUp n t).axisRights = s.axisRights := by 
  unfold settleGiveUp; split <;> simp
@[simp] theorem settleGiveUp_axisRight (n : SlotNo) (t : Trigger) (i : Axis) : (s.settleGiveUp n t).axisRight i = s.axisRight i := by
  simp only [axisRight, settleGiveUp_axisRights]
@[simp] theorem settleGiveUp_links (n : SlotNo) (t : Trigger) : (s.settleGiveUp n t).links = s.links := by 
  unfold settleGiveUp; split <;> simp
@[simp] theorem settleGiveUp_link (n : SlotNo) (t : Trigger) (i : Port) : (s.settleGiveUp n t).link i = s.link i := by
  simp only [link, settleGiveUp_links]
@[simp] theorem settleGiveUp_grant (n : SlotNo) (t : Trigger) : (s.settleGiveUp n t).grant = s.grant := by 
  unfold settleGiveUp; split <;> simp
@[simp] theorem settleGiveUp_waiting (n : SlotNo) (t : Trigger) : (s.settleGiveUp n t).waiting = s.waiting := by 
  unfold settleGiveUp; split <;> simp
@[simp] theorem settleGiveUp_lastServed (n : SlotNo) (t : Trigger) : (s.settleGiveUp n t).lastServed = s.lastServed := by 
  unfold settleGiveUp; split <;> simp

@[simp] theorem lastOwedMoved_pending (n : SlotNo) : (s.lastOwedMoved n).pending = s.pending := by 
  unfold lastOwedMoved; split; (split <;> simp); rfl
@[simp] theorem lastOwedMoved_tick (n : SlotNo) : (s.lastOwedMoved n).tick = s.tick := by 
  unfold lastOwedMoved; split; (split <;> simp); rfl
@[simp] theorem lastOwedMoved_periods (n : SlotNo) : (s.lastOwedMoved n).periods = s.periods := by 
  unfold lastOwedMoved; split; (split <;> simp); rfl
@[simp] theorem lastOwedMoved_inReset (n : SlotNo) : (s.lastOwedMoved n).inReset = s.inReset := by 
  unfold lastOwedMoved; split; (split <;> simp); rfl
@[simp] theorem lastOwedMoved_resetCause (n : SlotNo) : (s.lastOwedMoved n).resetCause = s.resetCause := by 
  unfold lastOwedMoved; split; (split <;> simp); rfl
@[simp] theorem lastOwedMoved_pins (n : SlotNo) : (s.lastOwedMoved n).pins = s.pins := by 
  unfold lastOwedMoved; split; (split <;> simp); rfl
@[simp] theorem lastOwedMoved_axes (n : SlotNo) : (s.lastOwedMoved n).axes = s.axes := by 
  unfold lastOwedMoved; split; (split <;> simp); rfl
@[simp] theorem lastOwedMoved_axis (n : SlotNo) (i : Axis) : (s.lastOwedMoved n).axis i = s.axis i := by
  simp only [axis, lastOwedMoved_axes]
@[simp] theorem lastOwedMoved_armLists (n : SlotNo) : (s.lastOwedMoved n).armLists = s.armLists := by 
  unfold lastOwedMoved; split; (split <;> simp); rfl
@[simp] theorem lastOwedMoved_armList (n : SlotNo) (i : Axis) : (s.lastOwedMoved n).armList i = s.armList i := by
  simp only [armList, lastOwedMoved_armLists]
@[simp] theorem lastOwedMoved_tableEpoch (n : SlotNo) : (s.lastOwedMoved n).tableEpoch = s.tableEpoch := by 
  unfold lastOwedMoved; split; (split <;> simp); rfl
@[simp] theorem lastOwedMoved_epochOf (n : SlotNo) (i : Axis) : (s.lastOwedMoved n).epochOf i = s.epochOf i := by
  simp only [epochOf, lastOwedMoved_tableEpoch]
@[simp] theorem lastOwedMoved_tableIn (n : SlotNo) : (s.lastOwedMoved n).tableIn = s.tableIn := by 
  unfold lastOwedMoved; split; (split <;> simp); rfl
@[simp] theorem lastOwedMoved_inbox (n : SlotNo) (i : Axis) : (s.lastOwedMoved n).inbox i = s.inbox i := by
  simp only [inbox, lastOwedMoved_tableIn]
@[simp] theorem lastOwedMoved_lines (n : SlotNo) : (s.lastOwedMoved n).lines = s.lines := by 
  unfold lastOwedMoved; split; (split <;> simp); rfl
@[simp] theorem lastOwedMoved_line (n : SlotNo) (i : LineNo) : (s.lastOwedMoved n).line i = s.line i := by
  simp only [line, lastOwedMoved_lines]
@[simp] theorem lastOwedMoved_notes (n : SlotNo) : (s.lastOwedMoved n).notes = s.notes := by 
  unfold lastOwedMoved; split; (split <;> simp); rfl
@[simp] theorem lastOwedMoved_note (n : SlotNo) (i : Port) : (s.lastOwedMoved n).note i = s.note i := by
  simp only [note, lastOwedMoved_notes]
@[simp] theorem lastOwedMoved_views (n : SlotNo) : (s.lastOwedMoved n).views = s.views := by 
  unfold lastOwedMoved; split; (split <;> simp); rfl
@[simp] theorem lastOwedMoved_view (n : SlotNo) (i : Port) : (s.lastOwedMoved n).view i = s.view i := by
  simp only [view, lastOwedMoved_views]
@[simp] theorem lastOwedMoved_sessions (n : SlotNo) : (s.lastOwedMoved n).sessions = s.sessions := by 
  unfold lastOwedMoved; split; (split <;> simp); rfl
@[simp] theorem lastOwedMoved_session (n : SlotNo) (i : Port) : (s.lastOwedMoved n).session i = s.session i := by
  simp only [session, lastOwedMoved_sessions]
@[simp] theorem lastOwedMoved_unreserved (n : SlotNo) : (s.lastOwedMoved n).unreserved = s.unreserved := by 
  unfold lastOwedMoved; split; (split <;> simp); rfl
@[simp] theorem lastOwedMoved_axisRights (n : SlotNo) : (s.lastOwedMoved n).axisRights = s.axisRights := by 
  unfold lastOwedMoved; split; (split <;> simp); rfl
@[simp] theorem lastOwedMoved_axisRight (n : SlotNo) (i : Axis) : (s.lastOwedMoved n).axisRight i = s.axisRight i := by
  simp only [axisRight, lastOwedMoved_axisRights]
@[simp] theorem lastOwedMoved_links (n : SlotNo) : (s.lastOwedMoved n).links = s.links := by 
  unfold lastOwedMoved; split; (split <;> simp); rfl
@[simp] theorem lastOwedMoved_link (n : SlotNo) (i : Port) : (s.lastOwedMoved n).link i = s.link i := by
  simp only [link, lastOwedMoved_links]
@[simp] theorem lastOwedMoved_grant (n : SlotNo) : (s.lastOwedMoved n).grant = s.grant := by 
  unfold lastOwedMoved; split; (split <;> simp); rfl
@[simp] theorem lastOwedMoved_waiting (n : SlotNo) : (s.lastOwedMoved n).waiting = s.waiting := by 
  unfold lastOwedMoved; split; (split <;> simp); rfl
@[simp] theorem lastOwedMoved_lastServed (n : SlotNo) : (s.lastOwedMoved n).lastServed = s.lastServed := by 
  unfold lastOwedMoved; split; (split <;> simp); rfl

/-! ### One fire -/

@[simp] theorem fireLine_pending (t : Trigger) : (s.fireLine t).pending = s.pending := by unfold fireLine; split <;> simp
@[simp] theorem fireLine_tick (t : Trigger) : (s.fireLine t).tick = s.tick := by unfold fireLine; split <;> simp
@[simp] theorem fireLine_periods (t : Trigger) : (s.fireLine t).periods = s.periods := by unfold fireLine; split <;> simp
@[simp] theorem fireLine_inReset (t : Trigger) : (s.fireLine t).inReset = s.inReset := by unfold fireLine; split <;> simp
@[simp] theorem fireLine_resetCause (t : Trigger) : (s.fireLine t).resetCause = s.resetCause := by unfold fireLine; split <;> simp
@[simp] theorem fireLine_pins (t : Trigger) : (s.fireLine t).pins = s.pins := by unfold fireLine; split <;> simp
@[simp] theorem fireLine_axes (t : Trigger) : (s.fireLine t).axes = s.axes := by unfold fireLine; split <;> simp
@[simp] theorem fireLine_axis (t : Trigger) (i : Axis) : (s.fireLine t).axis i = s.axis i := by
  simp only [axis, fireLine_axes]
@[simp] theorem fireLine_slots (t : Trigger) : (s.fireLine t).slots = s.slots := by unfold fireLine; split <;> simp
@[simp] theorem fireLine_slot (t : Trigger) (i : SlotNo) : (s.fireLine t).slot i = s.slot i := by
  simp only [slot, fireLine_slots]
@[simp] theorem fireLine_armLists (t : Trigger) : (s.fireLine t).armLists = s.armLists := by unfold fireLine; split <;> simp
@[simp] theorem fireLine_armList (t : Trigger) (i : Axis) : (s.fireLine t).armList i = s.armList i := by
  simp only [armList, fireLine_armLists]
@[simp] theorem fireLine_held (t : Trigger) : (s.fireLine t).held = s.held := by unfold fireLine; split <;> simp
@[simp] theorem fireLine_heldBy (t : Trigger) (i : Port) : (s.fireLine t).heldBy i = s.heldBy i := by
  simp only [heldBy, fireLine_held]
@[simp] theorem fireLine_tableEpoch (t : Trigger) : (s.fireLine t).tableEpoch = s.tableEpoch := by unfold fireLine; split <;> simp
@[simp] theorem fireLine_epochOf (t : Trigger) (i : Axis) : (s.fireLine t).epochOf i = s.epochOf i := by
  simp only [epochOf, fireLine_tableEpoch]
@[simp] theorem fireLine_tableIn (t : Trigger) : (s.fireLine t).tableIn = s.tableIn := by unfold fireLine; split <;> simp
@[simp] theorem fireLine_inbox (t : Trigger) (i : Axis) : (s.fireLine t).inbox i = s.inbox i := by
  simp only [inbox, fireLine_tableIn]
@[simp] theorem fireLine_notes (t : Trigger) : (s.fireLine t).notes = s.notes := by unfold fireLine; split <;> simp
@[simp] theorem fireLine_note (t : Trigger) (i : Port) : (s.fireLine t).note i = s.note i := by
  simp only [note, fireLine_notes]
@[simp] theorem fireLine_views (t : Trigger) : (s.fireLine t).views = s.views := by unfold fireLine; split <;> simp
@[simp] theorem fireLine_view (t : Trigger) (i : Port) : (s.fireLine t).view i = s.view i := by
  simp only [view, fireLine_views]
@[simp] theorem fireLine_sessions (t : Trigger) : (s.fireLine t).sessions = s.sessions := by unfold fireLine; split <;> simp
@[simp] theorem fireLine_session (t : Trigger) (i : Port) : (s.fireLine t).session i = s.session i := by
  simp only [session, fireLine_sessions]
@[simp] theorem fireLine_unreserved (t : Trigger) : (s.fireLine t).unreserved = s.unreserved := by unfold fireLine; split <;> simp
@[simp] theorem fireLine_axisRights (t : Trigger) : (s.fireLine t).axisRights = s.axisRights := by unfold fireLine; split <;> simp
@[simp] theorem fireLine_axisRight (t : Trigger) (i : Axis) : (s.fireLine t).axisRight i = s.axisRight i := by
  simp only [axisRight, fireLine_axisRights]
@[simp] theorem fireLine_links (t : Trigger) : (s.fireLine t).links = s.links := by unfold fireLine; split <;> simp
@[simp] theorem fireLine_link (t : Trigger) (i : Port) : (s.fireLine t).link i = s.link i := by
  simp only [link, fireLine_links]
@[simp] theorem fireLine_grant (t : Trigger) : (s.fireLine t).grant = s.grant := by unfold fireLine; split <;> simp
@[simp] theorem fireLine_waiting (t : Trigger) : (s.fireLine t).waiting = s.waiting := by unfold fireLine; split <;> simp
@[simp] theorem fireLine_lastServed (t : Trigger) : (s.fireLine t).lastServed = s.lastServed := by unfold fireLine; split <;> simp

@[simp] theorem fireNote_pending (n : SlotNo) (t : Trigger) (r : Arrival) : (s.fireNote n t r).pending = s.pending := by 
  unfold fireNote; split <;> simp
@[simp] theorem fireNote_tick (n : SlotNo) (t : Trigger) (r : Arrival) : (s.fireNote n t r).tick = s.tick := by 
  unfold fireNote; split <;> simp
@[simp] theorem fireNote_periods (n : SlotNo) (t : Trigger) (r : Arrival) : (s.fireNote n t r).periods = s.periods := by 
  unfold fireNote; split <;> simp
@[simp] theorem fireNote_inReset (n : SlotNo) (t : Trigger) (r : Arrival) : (s.fireNote n t r).inReset = s.inReset := by 
  unfold fireNote; split <;> simp
@[simp] theorem fireNote_resetCause (n : SlotNo) (t : Trigger) (r : Arrival) : (s.fireNote n t r).resetCause = s.resetCause := by 
  unfold fireNote; split <;> simp
@[simp] theorem fireNote_pins (n : SlotNo) (t : Trigger) (r : Arrival) : (s.fireNote n t r).pins = s.pins := by 
  unfold fireNote; split <;> simp
@[simp] theorem fireNote_axes (n : SlotNo) (t : Trigger) (r : Arrival) : (s.fireNote n t r).axes = s.axes := by 
  unfold fireNote; split <;> simp
@[simp] theorem fireNote_axis (n : SlotNo) (t : Trigger) (r : Arrival) (i : Axis) : (s.fireNote n t r).axis i = s.axis i := by
  simp only [axis, fireNote_axes]
@[simp] theorem fireNote_slots (n : SlotNo) (t : Trigger) (r : Arrival) : (s.fireNote n t r).slots = s.slots := by 
  unfold fireNote; split <;> simp
@[simp] theorem fireNote_slot (n : SlotNo) (t : Trigger) (r : Arrival) (i : SlotNo) : (s.fireNote n t r).slot i = s.slot i := by
  simp only [slot, fireNote_slots]
@[simp] theorem fireNote_armLists (n : SlotNo) (t : Trigger) (r : Arrival) : (s.fireNote n t r).armLists = s.armLists := by 
  unfold fireNote; split <;> simp
@[simp] theorem fireNote_armList (n : SlotNo) (t : Trigger) (r : Arrival) (i : Axis) : (s.fireNote n t r).armList i = s.armList i := by
  simp only [armList, fireNote_armLists]
@[simp] theorem fireNote_held (n : SlotNo) (t : Trigger) (r : Arrival) : (s.fireNote n t r).held = s.held := by 
  unfold fireNote; split <;> simp
@[simp] theorem fireNote_heldBy (n : SlotNo) (t : Trigger) (r : Arrival) (i : Port) : (s.fireNote n t r).heldBy i = s.heldBy i := by
  simp only [heldBy, fireNote_held]
@[simp] theorem fireNote_tableEpoch (n : SlotNo) (t : Trigger) (r : Arrival) : (s.fireNote n t r).tableEpoch = s.tableEpoch := by 
  unfold fireNote; split <;> simp
@[simp] theorem fireNote_epochOf (n : SlotNo) (t : Trigger) (r : Arrival) (i : Axis) : (s.fireNote n t r).epochOf i = s.epochOf i := by
  simp only [epochOf, fireNote_tableEpoch]
@[simp] theorem fireNote_tableIn (n : SlotNo) (t : Trigger) (r : Arrival) : (s.fireNote n t r).tableIn = s.tableIn := by 
  unfold fireNote; split <;> simp
@[simp] theorem fireNote_inbox (n : SlotNo) (t : Trigger) (r : Arrival) (i : Axis) : (s.fireNote n t r).inbox i = s.inbox i := by
  simp only [inbox, fireNote_tableIn]
@[simp] theorem fireNote_lines (n : SlotNo) (t : Trigger) (r : Arrival) : (s.fireNote n t r).lines = s.lines := by 
  unfold fireNote; split <;> simp
@[simp] theorem fireNote_line (n : SlotNo) (t : Trigger) (r : Arrival) (i : LineNo) : (s.fireNote n t r).line i = s.line i := by
  simp only [line, fireNote_lines]
@[simp] theorem fireNote_views (n : SlotNo) (t : Trigger) (r : Arrival) : (s.fireNote n t r).views = s.views := by 
  unfold fireNote; split <;> simp
@[simp] theorem fireNote_view (n : SlotNo) (t : Trigger) (r : Arrival) (i : Port) : (s.fireNote n t r).view i = s.view i := by
  simp only [view, fireNote_views]
@[simp] theorem fireNote_sessions (n : SlotNo) (t : Trigger) (r : Arrival) : (s.fireNote n t r).sessions = s.sessions := by 
  unfold fireNote; split <;> simp
@[simp] theorem fireNote_session (n : SlotNo) (t : Trigger) (r : Arrival) (i : Port) : (s.fireNote n t r).session i = s.session i := by
  simp only [session, fireNote_sessions]
@[simp] theorem fireNote_unreserved (n : SlotNo) (t : Trigger) (r : Arrival) : (s.fireNote n t r).unreserved = s.unreserved := by 
  unfold fireNote; split <;> simp
@[simp] theorem fireNote_axisRights (n : SlotNo) (t : Trigger) (r : Arrival) : (s.fireNote n t r).axisRights = s.axisRights := by 
  unfold fireNote; split <;> simp
@[simp] theorem fireNote_axisRight (n : SlotNo) (t : Trigger) (r : Arrival) (i : Axis) : (s.fireNote n t r).axisRight i = s.axisRight i := by
  simp only [axisRight, fireNote_axisRights]
@[simp] theorem fireNote_links (n : SlotNo) (t : Trigger) (r : Arrival) : (s.fireNote n t r).links = s.links := by 
  unfold fireNote; split <;> simp
@[simp] theorem fireNote_link (n : SlotNo) (t : Trigger) (r : Arrival) (i : Port) : (s.fireNote n t r).link i = s.link i := by
  simp only [link, fireNote_links]
@[simp] theorem fireNote_grant (n : SlotNo) (t : Trigger) (r : Arrival) : (s.fireNote n t r).grant = s.grant := by 
  unfold fireNote; split <;> simp
@[simp] theorem fireNote_waiting (n : SlotNo) (t : Trigger) (r : Arrival) : (s.fireNote n t r).waiting = s.waiting := by 
  unfold fireNote; split <;> simp
@[simp] theorem fireNote_lastServed (n : SlotNo) (t : Trigger) (r : Arrival) : (s.fireNote n t r).lastServed = s.lastServed := by 
  unfold fireNote; split <;> simp

@[simp] theorem fireOwn_pending (n : SlotNo) (t : Trigger) : (s.fireOwn n t).pending = s.pending := by unfold fireOwn; split <;> simp
@[simp] theorem fireOwn_tick (n : SlotNo) (t : Trigger) : (s.fireOwn n t).tick = s.tick := by unfold fireOwn; split <;> simp
@[simp] theorem fireOwn_periods (n : SlotNo) (t : Trigger) : (s.fireOwn n t).periods = s.periods := by unfold fireOwn; split <;> simp
@[simp] theorem fireOwn_inReset (n : SlotNo) (t : Trigger) : (s.fireOwn n t).inReset = s.inReset := by unfold fireOwn; split <;> simp
@[simp] theorem fireOwn_resetCause (n : SlotNo) (t : Trigger) : (s.fireOwn n t).resetCause = s.resetCause := by unfold fireOwn; split <;> simp
@[simp] theorem fireOwn_pins (n : SlotNo) (t : Trigger) : (s.fireOwn n t).pins = s.pins := by unfold fireOwn; split <;> simp
@[simp] theorem fireOwn_axes (n : SlotNo) (t : Trigger) : (s.fireOwn n t).axes = s.axes := by unfold fireOwn; split <;> simp
@[simp] theorem fireOwn_axis (n : SlotNo) (t : Trigger) (i : Axis) : (s.fireOwn n t).axis i = s.axis i := by
  simp only [axis, fireOwn_axes]
@[simp] theorem fireOwn_held (n : SlotNo) (t : Trigger) : (s.fireOwn n t).held = s.held := by unfold fireOwn; split <;> simp
@[simp] theorem fireOwn_heldBy (n : SlotNo) (t : Trigger) (i : Port) : (s.fireOwn n t).heldBy i = s.heldBy i := by
  simp only [heldBy, fireOwn_held]
@[simp] theorem fireOwn_tableEpoch (n : SlotNo) (t : Trigger) : (s.fireOwn n t).tableEpoch = s.tableEpoch := by unfold fireOwn; split <;> simp
@[simp] theorem fireOwn_epochOf (n : SlotNo) (t : Trigger) (i : Axis) : (s.fireOwn n t).epochOf i = s.epochOf i := by
  simp only [epochOf, fireOwn_tableEpoch]
@[simp] theorem fireOwn_tableIn (n : SlotNo) (t : Trigger) : (s.fireOwn n t).tableIn = s.tableIn := by unfold fireOwn; split <;> simp
@[simp] theorem fireOwn_inbox (n : SlotNo) (t : Trigger) (i : Axis) : (s.fireOwn n t).inbox i = s.inbox i := by
  simp only [inbox, fireOwn_tableIn]
@[simp] theorem fireOwn_lines (n : SlotNo) (t : Trigger) : (s.fireOwn n t).lines = s.lines := by unfold fireOwn; split <;> simp
@[simp] theorem fireOwn_line (n : SlotNo) (t : Trigger) (i : LineNo) : (s.fireOwn n t).line i = s.line i := by
  simp only [line, fireOwn_lines]
@[simp] theorem fireOwn_notes (n : SlotNo) (t : Trigger) : (s.fireOwn n t).notes = s.notes := by unfold fireOwn; split <;> simp
@[simp] theorem fireOwn_note (n : SlotNo) (t : Trigger) (i : Port) : (s.fireOwn n t).note i = s.note i := by
  simp only [note, fireOwn_notes]
@[simp] theorem fireOwn_views (n : SlotNo) (t : Trigger) : (s.fireOwn n t).views = s.views := by unfold fireOwn; split <;> simp
@[simp] theorem fireOwn_view (n : SlotNo) (t : Trigger) (i : Port) : (s.fireOwn n t).view i = s.view i := by
  simp only [view, fireOwn_views]
@[simp] theorem fireOwn_sessions (n : SlotNo) (t : Trigger) : (s.fireOwn n t).sessions = s.sessions := by unfold fireOwn; split <;> simp
@[simp] theorem fireOwn_session (n : SlotNo) (t : Trigger) (i : Port) : (s.fireOwn n t).session i = s.session i := by
  simp only [session, fireOwn_sessions]
@[simp] theorem fireOwn_unreserved (n : SlotNo) (t : Trigger) : (s.fireOwn n t).unreserved = s.unreserved := by unfold fireOwn; split <;> simp
@[simp] theorem fireOwn_axisRights (n : SlotNo) (t : Trigger) : (s.fireOwn n t).axisRights = s.axisRights := by unfold fireOwn; split <;> simp
@[simp] theorem fireOwn_axisRight (n : SlotNo) (t : Trigger) (i : Axis) : (s.fireOwn n t).axisRight i = s.axisRight i := by
  simp only [axisRight, fireOwn_axisRights]
@[simp] theorem fireOwn_links (n : SlotNo) (t : Trigger) : (s.fireOwn n t).links = s.links := by unfold fireOwn; split <;> simp
@[simp] theorem fireOwn_link (n : SlotNo) (t : Trigger) (i : Port) : (s.fireOwn n t).link i = s.link i := by
  simp only [link, fireOwn_links]
@[simp] theorem fireOwn_grant (n : SlotNo) (t : Trigger) : (s.fireOwn n t).grant = s.grant := by unfold fireOwn; split <;> simp
@[simp] theorem fireOwn_waiting (n : SlotNo) (t : Trigger) : (s.fireOwn n t).waiting = s.waiting := by unfold fireOwn; split <;> simp
@[simp] theorem fireOwn_lastServed (n : SlotNo) (t : Trigger) : (s.fireOwn n t).lastServed = s.lastServed := by unfold fireOwn; split <;> simp

@[simp] theorem fireChain_pending (n : SlotNo) (t : Trigger) (r : Arrival) : (s.fireChain n t r).pending = s.pending := by 
  unfold fireChain; split; rfl; split <;> simp
@[simp] theorem fireChain_tick (n : SlotNo) (t : Trigger) (r : Arrival) : (s.fireChain n t r).tick = s.tick := by 
  unfold fireChain; split; rfl; split <;> simp
@[simp] theorem fireChain_periods (n : SlotNo) (t : Trigger) (r : Arrival) : (s.fireChain n t r).periods = s.periods := by 
  unfold fireChain; split; rfl; split <;> simp
@[simp] theorem fireChain_inReset (n : SlotNo) (t : Trigger) (r : Arrival) : (s.fireChain n t r).inReset = s.inReset := by 
  unfold fireChain; split; rfl; split <;> simp
@[simp] theorem fireChain_resetCause (n : SlotNo) (t : Trigger) (r : Arrival) : (s.fireChain n t r).resetCause = s.resetCause := by 
  unfold fireChain; split; rfl; split <;> simp
@[simp] theorem fireChain_pins (n : SlotNo) (t : Trigger) (r : Arrival) : (s.fireChain n t r).pins = s.pins := by 
  unfold fireChain; split; rfl; split <;> simp
@[simp] theorem fireChain_axes (n : SlotNo) (t : Trigger) (r : Arrival) : (s.fireChain n t r).axes = s.axes := by 
  unfold fireChain; split; rfl; split <;> simp
@[simp] theorem fireChain_axis (n : SlotNo) (t : Trigger) (r : Arrival) (i : Axis) : (s.fireChain n t r).axis i = s.axis i := by
  simp only [axis, fireChain_axes]
@[simp] theorem fireChain_held (n : SlotNo) (t : Trigger) (r : Arrival) : (s.fireChain n t r).held = s.held := by 
  unfold fireChain; split; rfl; split <;> simp
@[simp] theorem fireChain_heldBy (n : SlotNo) (t : Trigger) (r : Arrival) (i : Port) : (s.fireChain n t r).heldBy i = s.heldBy i := by
  simp only [heldBy, fireChain_held]
@[simp] theorem fireChain_tableEpoch (n : SlotNo) (t : Trigger) (r : Arrival) : (s.fireChain n t r).tableEpoch = s.tableEpoch := by 
  unfold fireChain; split; rfl; split <;> simp
@[simp] theorem fireChain_epochOf (n : SlotNo) (t : Trigger) (r : Arrival) (i : Axis) : (s.fireChain n t r).epochOf i = s.epochOf i := by
  simp only [epochOf, fireChain_tableEpoch]
@[simp] theorem fireChain_tableIn (n : SlotNo) (t : Trigger) (r : Arrival) : (s.fireChain n t r).tableIn = s.tableIn := by 
  unfold fireChain; split; rfl; split <;> simp
@[simp] theorem fireChain_inbox (n : SlotNo) (t : Trigger) (r : Arrival) (i : Axis) : (s.fireChain n t r).inbox i = s.inbox i := by
  simp only [inbox, fireChain_tableIn]
@[simp] theorem fireChain_lines (n : SlotNo) (t : Trigger) (r : Arrival) : (s.fireChain n t r).lines = s.lines := by 
  unfold fireChain; split; rfl; split <;> simp
@[simp] theorem fireChain_line (n : SlotNo) (t : Trigger) (r : Arrival) (i : LineNo) : (s.fireChain n t r).line i = s.line i := by
  simp only [line, fireChain_lines]
@[simp] theorem fireChain_views (n : SlotNo) (t : Trigger) (r : Arrival) : (s.fireChain n t r).views = s.views := by 
  unfold fireChain; split; rfl; split <;> simp
@[simp] theorem fireChain_view (n : SlotNo) (t : Trigger) (r : Arrival) (i : Port) : (s.fireChain n t r).view i = s.view i := by
  simp only [view, fireChain_views]
@[simp] theorem fireChain_sessions (n : SlotNo) (t : Trigger) (r : Arrival) : (s.fireChain n t r).sessions = s.sessions := by 
  unfold fireChain; split; rfl; split <;> simp
@[simp] theorem fireChain_session (n : SlotNo) (t : Trigger) (r : Arrival) (i : Port) : (s.fireChain n t r).session i = s.session i := by
  simp only [session, fireChain_sessions]
@[simp] theorem fireChain_unreserved (n : SlotNo) (t : Trigger) (r : Arrival) : (s.fireChain n t r).unreserved = s.unreserved := by 
  unfold fireChain; split; rfl; split <;> simp
@[simp] theorem fireChain_axisRights (n : SlotNo) (t : Trigger) (r : Arrival) : (s.fireChain n t r).axisRights = s.axisRights := by 
  unfold fireChain; split; rfl; split <;> simp
@[simp] theorem fireChain_axisRight (n : SlotNo) (t : Trigger) (r : Arrival) (i : Axis) : (s.fireChain n t r).axisRight i = s.axisRight i := by
  simp only [axisRight, fireChain_axisRights]
@[simp] theorem fireChain_links (n : SlotNo) (t : Trigger) (r : Arrival) : (s.fireChain n t r).links = s.links := by 
  unfold fireChain; split; rfl; split <;> simp
@[simp] theorem fireChain_link (n : SlotNo) (t : Trigger) (r : Arrival) (i : Port) : (s.fireChain n t r).link i = s.link i := by
  simp only [link, fireChain_links]
@[simp] theorem fireChain_grant (n : SlotNo) (t : Trigger) (r : Arrival) : (s.fireChain n t r).grant = s.grant := by 
  unfold fireChain; split; rfl; split <;> simp
@[simp] theorem fireChain_waiting (n : SlotNo) (t : Trigger) (r : Arrival) : (s.fireChain n t r).waiting = s.waiting := by 
  unfold fireChain; split; rfl; split <;> simp
@[simp] theorem fireChain_lastServed (n : SlotNo) (t : Trigger) (r : Arrival) : (s.fireChain n t r).lastServed = s.lastServed := by 
  unfold fireChain; split; rfl; split <;> simp

@[simp] theorem fireClose_pending (n : SlotNo) : (s.fireClose n).pending = s.pending := by 
  unfold fireClose; split; (split <;> simp); rfl
@[simp] theorem fireClose_tick (n : SlotNo) : (s.fireClose n).tick = s.tick := by 
  unfold fireClose; split; (split <;> simp); rfl
@[simp] theorem fireClose_periods (n : SlotNo) : (s.fireClose n).periods = s.periods := by 
  unfold fireClose; split; (split <;> simp); rfl
@[simp] theorem fireClose_inReset (n : SlotNo) : (s.fireClose n).inReset = s.inReset := by 
  unfold fireClose; split; (split <;> simp); rfl
@[simp] theorem fireClose_resetCause (n : SlotNo) : (s.fireClose n).resetCause = s.resetCause := by 
  unfold fireClose; split; (split <;> simp); rfl
@[simp] theorem fireClose_pins (n : SlotNo) : (s.fireClose n).pins = s.pins := by 
  unfold fireClose; split; (split <;> simp); rfl
@[simp] theorem fireClose_axes (n : SlotNo) : (s.fireClose n).axes = s.axes := by 
  unfold fireClose; split; (split <;> simp); rfl
@[simp] theorem fireClose_axis (n : SlotNo) (i : Axis) : (s.fireClose n).axis i = s.axis i := by
  simp only [axis, fireClose_axes]
@[simp] theorem fireClose_armLists (n : SlotNo) : (s.fireClose n).armLists = s.armLists := by 
  unfold fireClose; split; (split <;> simp); rfl
@[simp] theorem fireClose_armList (n : SlotNo) (i : Axis) : (s.fireClose n).armList i = s.armList i := by
  simp only [armList, fireClose_armLists]
@[simp] theorem fireClose_tableEpoch (n : SlotNo) : (s.fireClose n).tableEpoch = s.tableEpoch := by 
  unfold fireClose; split; (split <;> simp); rfl
@[simp] theorem fireClose_epochOf (n : SlotNo) (i : Axis) : (s.fireClose n).epochOf i = s.epochOf i := by
  simp only [epochOf, fireClose_tableEpoch]
@[simp] theorem fireClose_tableIn (n : SlotNo) : (s.fireClose n).tableIn = s.tableIn := by 
  unfold fireClose; split; (split <;> simp); rfl
@[simp] theorem fireClose_inbox (n : SlotNo) (i : Axis) : (s.fireClose n).inbox i = s.inbox i := by
  simp only [inbox, fireClose_tableIn]
@[simp] theorem fireClose_lines (n : SlotNo) : (s.fireClose n).lines = s.lines := by 
  unfold fireClose; split; (split <;> simp); rfl
@[simp] theorem fireClose_line (n : SlotNo) (i : LineNo) : (s.fireClose n).line i = s.line i := by
  simp only [line, fireClose_lines]
@[simp] theorem fireClose_notes (n : SlotNo) : (s.fireClose n).notes = s.notes := by 
  unfold fireClose; split; (split <;> simp); rfl
@[simp] theorem fireClose_note (n : SlotNo) (i : Port) : (s.fireClose n).note i = s.note i := by
  simp only [note, fireClose_notes]
@[simp] theorem fireClose_views (n : SlotNo) : (s.fireClose n).views = s.views := by 
  unfold fireClose; split; (split <;> simp); rfl
@[simp] theorem fireClose_view (n : SlotNo) (i : Port) : (s.fireClose n).view i = s.view i := by
  simp only [view, fireClose_views]
@[simp] theorem fireClose_sessions (n : SlotNo) : (s.fireClose n).sessions = s.sessions := by 
  unfold fireClose; split; (split <;> simp); rfl
@[simp] theorem fireClose_session (n : SlotNo) (i : Port) : (s.fireClose n).session i = s.session i := by
  simp only [session, fireClose_sessions]
@[simp] theorem fireClose_unreserved (n : SlotNo) : (s.fireClose n).unreserved = s.unreserved := by 
  unfold fireClose; split; (split <;> simp); rfl
@[simp] theorem fireClose_axisRights (n : SlotNo) : (s.fireClose n).axisRights = s.axisRights := by 
  unfold fireClose; split; (split <;> simp); rfl
@[simp] theorem fireClose_axisRight (n : SlotNo) (i : Axis) : (s.fireClose n).axisRight i = s.axisRight i := by
  simp only [axisRight, fireClose_axisRights]
@[simp] theorem fireClose_links (n : SlotNo) : (s.fireClose n).links = s.links := by 
  unfold fireClose; split; (split <;> simp); rfl
@[simp] theorem fireClose_link (n : SlotNo) (i : Port) : (s.fireClose n).link i = s.link i := by
  simp only [link, fireClose_links]
@[simp] theorem fireClose_grant (n : SlotNo) : (s.fireClose n).grant = s.grant := by 
  unfold fireClose; split; (split <;> simp); rfl
@[simp] theorem fireClose_waiting (n : SlotNo) : (s.fireClose n).waiting = s.waiting := by 
  unfold fireClose; split; (split <;> simp); rfl
@[simp] theorem fireClose_lastServed (n : SlotNo) : (s.fireClose n).lastServed = s.lastServed := by 
  unfold fireClose; split; (split <;> simp); rfl

@[simp] theorem fire_pending (r : Arrival) (n : SlotNo) : (fire r s n).pending = s.pending := by 
  unfold fire; split; (split <;> simp); rfl
@[simp] theorem fire_tick (r : Arrival) (n : SlotNo) : (fire r s n).tick = s.tick := by 
  unfold fire; split; (split <;> simp); rfl
@[simp] theorem fire_periods (r : Arrival) (n : SlotNo) : (fire r s n).periods = s.periods := by 
  unfold fire; split; (split <;> simp); rfl
@[simp] theorem fire_inReset (r : Arrival) (n : SlotNo) : (fire r s n).inReset = s.inReset := by 
  unfold fire; split; (split <;> simp); rfl
@[simp] theorem fire_resetCause (r : Arrival) (n : SlotNo) : (fire r s n).resetCause = s.resetCause := by 
  unfold fire; split; (split <;> simp); rfl
@[simp] theorem fire_pins (r : Arrival) (n : SlotNo) : (fire r s n).pins = s.pins := by 
  unfold fire; split; (split <;> simp); rfl
@[simp] theorem fire_axes (r : Arrival) (n : SlotNo) : (fire r s n).axes = s.axes := by 
  unfold fire; split; (split <;> simp); rfl
@[simp] theorem fire_axis (r : Arrival) (n : SlotNo) (i : Axis) : (fire r s n).axis i = s.axis i := by
  simp only [axis, fire_axes]
@[simp] theorem fire_tableEpoch (r : Arrival) (n : SlotNo) : (fire r s n).tableEpoch = s.tableEpoch := by 
  unfold fire; split; (split <;> simp); rfl
@[simp] theorem fire_epochOf (r : Arrival) (n : SlotNo) (i : Axis) : (fire r s n).epochOf i = s.epochOf i := by
  simp only [epochOf, fire_tableEpoch]
@[simp] theorem fire_tableIn (r : Arrival) (n : SlotNo) : (fire r s n).tableIn = s.tableIn := by 
  unfold fire; split; (split <;> simp); rfl
@[simp] theorem fire_inbox (r : Arrival) (n : SlotNo) (i : Axis) : (fire r s n).inbox i = s.inbox i := by
  simp only [inbox, fire_tableIn]
@[simp] theorem fire_views (r : Arrival) (n : SlotNo) : (fire r s n).views = s.views := by 
  unfold fire; split; (split <;> simp); rfl
@[simp] theorem fire_view (r : Arrival) (n : SlotNo) (i : Port) : (fire r s n).view i = s.view i := by
  simp only [view, fire_views]
@[simp] theorem fire_sessions (r : Arrival) (n : SlotNo) : (fire r s n).sessions = s.sessions := by 
  unfold fire; split; (split <;> simp); rfl
@[simp] theorem fire_session (r : Arrival) (n : SlotNo) (i : Port) : (fire r s n).session i = s.session i := by
  simp only [session, fire_sessions]
@[simp] theorem fire_unreserved (r : Arrival) (n : SlotNo) : (fire r s n).unreserved = s.unreserved := by 
  unfold fire; split; (split <;> simp); rfl
@[simp] theorem fire_axisRights (r : Arrival) (n : SlotNo) : (fire r s n).axisRights = s.axisRights := by 
  unfold fire; split; (split <;> simp); rfl
@[simp] theorem fire_axisRight (r : Arrival) (n : SlotNo) (i : Axis) : (fire r s n).axisRight i = s.axisRight i := by
  simp only [axisRight, fire_axisRights]
@[simp] theorem fire_links (r : Arrival) (n : SlotNo) : (fire r s n).links = s.links := by 
  unfold fire; split; (split <;> simp); rfl
@[simp] theorem fire_link (r : Arrival) (n : SlotNo) (i : Port) : (fire r s n).link i = s.link i := by
  simp only [link, fire_links]
@[simp] theorem fire_grant (r : Arrival) (n : SlotNo) : (fire r s n).grant = s.grant := by 
  unfold fire; split; (split <;> simp); rfl
@[simp] theorem fire_waiting (r : Arrival) (n : SlotNo) : (fire r s n).waiting = s.waiting := by 
  unfold fire; split; (split <;> simp); rfl
@[simp] theorem fire_lastServed (r : Arrival) (n : SlotNo) : (fire r s n).lastServed = s.lastServed := by 
  unfold fire; split; (split <;> simp); rfl

@[simp] theorem dropOne_pending (r : Reference) (n : SlotNo) : (dropOne r s n).pending = s.pending := by 
  unfold dropOne; split; (split <;> simp); rfl
@[simp] theorem dropOne_tick (r : Reference) (n : SlotNo) : (dropOne r s n).tick = s.tick := by 
  unfold dropOne; split; (split <;> simp); rfl
@[simp] theorem dropOne_periods (r : Reference) (n : SlotNo) : (dropOne r s n).periods = s.periods := by 
  unfold dropOne; split; (split <;> simp); rfl
@[simp] theorem dropOne_inReset (r : Reference) (n : SlotNo) : (dropOne r s n).inReset = s.inReset := by 
  unfold dropOne; split; (split <;> simp); rfl
@[simp] theorem dropOne_resetCause (r : Reference) (n : SlotNo) : (dropOne r s n).resetCause = s.resetCause := by 
  unfold dropOne; split; (split <;> simp); rfl
@[simp] theorem dropOne_pins (r : Reference) (n : SlotNo) : (dropOne r s n).pins = s.pins := by 
  unfold dropOne; split; (split <;> simp); rfl
@[simp] theorem dropOne_axes (r : Reference) (n : SlotNo) : (dropOne r s n).axes = s.axes := by 
  unfold dropOne; split; (split <;> simp); rfl
@[simp] theorem dropOne_axis (r : Reference) (n : SlotNo) (i : Axis) : (dropOne r s n).axis i = s.axis i := by
  simp only [axis, dropOne_axes]
@[simp] theorem dropOne_held (r : Reference) (n : SlotNo) : (dropOne r s n).held = s.held := by 
  unfold dropOne; split; (split <;> simp); rfl
@[simp] theorem dropOne_heldBy (r : Reference) (n : SlotNo) (i : Port) : (dropOne r s n).heldBy i = s.heldBy i := by
  simp only [heldBy, dropOne_held]
@[simp] theorem dropOne_tableEpoch (r : Reference) (n : SlotNo) : (dropOne r s n).tableEpoch = s.tableEpoch := by 
  unfold dropOne; split; (split <;> simp); rfl
@[simp] theorem dropOne_epochOf (r : Reference) (n : SlotNo) (i : Axis) : (dropOne r s n).epochOf i = s.epochOf i := by
  simp only [epochOf, dropOne_tableEpoch]
@[simp] theorem dropOne_tableIn (r : Reference) (n : SlotNo) : (dropOne r s n).tableIn = s.tableIn := by 
  unfold dropOne; split; (split <;> simp); rfl
@[simp] theorem dropOne_inbox (r : Reference) (n : SlotNo) (i : Axis) : (dropOne r s n).inbox i = s.inbox i := by
  simp only [inbox, dropOne_tableIn]
@[simp] theorem dropOne_lines (r : Reference) (n : SlotNo) : (dropOne r s n).lines = s.lines := by 
  unfold dropOne; split; (split <;> simp); rfl
@[simp] theorem dropOne_line (r : Reference) (n : SlotNo) (i : LineNo) : (dropOne r s n).line i = s.line i := by
  simp only [line, dropOne_lines]
@[simp] theorem dropOne_views (r : Reference) (n : SlotNo) : (dropOne r s n).views = s.views := by 
  unfold dropOne; split; (split <;> simp); rfl
@[simp] theorem dropOne_view (r : Reference) (n : SlotNo) (i : Port) : (dropOne r s n).view i = s.view i := by
  simp only [view, dropOne_views]
@[simp] theorem dropOne_sessions (r : Reference) (n : SlotNo) : (dropOne r s n).sessions = s.sessions := by 
  unfold dropOne; split; (split <;> simp); rfl
@[simp] theorem dropOne_session (r : Reference) (n : SlotNo) (i : Port) : (dropOne r s n).session i = s.session i := by
  simp only [session, dropOne_sessions]
@[simp] theorem dropOne_unreserved (r : Reference) (n : SlotNo) : (dropOne r s n).unreserved = s.unreserved := by 
  unfold dropOne; split; (split <;> simp); rfl
@[simp] theorem dropOne_axisRights (r : Reference) (n : SlotNo) : (dropOne r s n).axisRights = s.axisRights := by 
  unfold dropOne; split; (split <;> simp); rfl
@[simp] theorem dropOne_axisRight (r : Reference) (n : SlotNo) (i : Axis) : (dropOne r s n).axisRight i = s.axisRight i := by
  simp only [axisRight, dropOne_axisRights]
@[simp] theorem dropOne_links (r : Reference) (n : SlotNo) : (dropOne r s n).links = s.links := by 
  unfold dropOne; split; (split <;> simp); rfl
@[simp] theorem dropOne_link (r : Reference) (n : SlotNo) (i : Port) : (dropOne r s n).link i = s.link i := by
  simp only [link, dropOne_links]
@[simp] theorem dropOne_grant (r : Reference) (n : SlotNo) : (dropOne r s n).grant = s.grant := by 
  unfold dropOne; split; (split <;> simp); rfl
@[simp] theorem dropOne_waiting (r : Reference) (n : SlotNo) : (dropOne r s n).waiting = s.waiting := by 
  unfold dropOne; split; (split <;> simp); rfl
@[simp] theorem dropOne_lastServed (r : Reference) (n : SlotNo) : (dropOne r s n).lastServed = s.lastServed := by 
  unfold dropOne; split; (split <;> simp); rfl

/-! ### The records the table takes -/

/-- What a function keeps, a fold of it keeps. -/
theorem foldl_keeps {α β : Type} (g : State → α → State) (f : State → β) (h : ∀ s x, f (g s x) = f s) (l : List α)
    (s : State) : f (l.foldl g s) = f s := by
  induction l generalizing s with
  | nil => rfl
  | cons x l ih => rw [List.foldl_cons, ih, h]

@[simp] theorem takeArrival_pending (r : Arrival) : (s.takeArrival r).pending = s.pending := by
  exact foldl_keeps _ (·.pending) (fun u n => fire_pending u r n) _ _
@[simp] theorem takeArrival_tick (r : Arrival) : (s.takeArrival r).tick = s.tick := by
  exact foldl_keeps _ (·.tick) (fun u n => fire_tick u r n) _ _
@[simp] theorem takeArrival_periods (r : Arrival) : (s.takeArrival r).periods = s.periods := by
  exact foldl_keeps _ (·.periods) (fun u n => fire_periods u r n) _ _
@[simp] theorem takeArrival_inReset (r : Arrival) : (s.takeArrival r).inReset = s.inReset := by
  exact foldl_keeps _ (·.inReset) (fun u n => fire_inReset u r n) _ _
@[simp] theorem takeArrival_resetCause (r : Arrival) : (s.takeArrival r).resetCause = s.resetCause := by
  exact foldl_keeps _ (·.resetCause) (fun u n => fire_resetCause u r n) _ _
@[simp] theorem takeArrival_pins (r : Arrival) : (s.takeArrival r).pins = s.pins := by
  exact foldl_keeps _ (·.pins) (fun u n => fire_pins u r n) _ _
@[simp] theorem takeArrival_axes (r : Arrival) : (s.takeArrival r).axes = s.axes := by
  exact foldl_keeps _ (·.axes) (fun u n => fire_axes u r n) _ _
@[simp] theorem takeArrival_axis (r : Arrival) (i : Axis) : (s.takeArrival r).axis i = s.axis i := by
  simp only [axis, takeArrival_axes]
@[simp] theorem takeArrival_tableEpoch (r : Arrival) : (s.takeArrival r).tableEpoch = s.tableEpoch := by
  exact foldl_keeps _ (·.tableEpoch) (fun u n => fire_tableEpoch u r n) _ _
@[simp] theorem takeArrival_epochOf (r : Arrival) (i : Axis) : (s.takeArrival r).epochOf i = s.epochOf i := by
  simp only [epochOf, takeArrival_tableEpoch]
@[simp] theorem takeArrival_tableIn (r : Arrival) : (s.takeArrival r).tableIn = s.tableIn := by
  exact foldl_keeps _ (·.tableIn) (fun u n => fire_tableIn u r n) _ _
@[simp] theorem takeArrival_inbox (r : Arrival) (i : Axis) : (s.takeArrival r).inbox i = s.inbox i := by
  simp only [inbox, takeArrival_tableIn]
@[simp] theorem takeArrival_views (r : Arrival) : (s.takeArrival r).views = s.views := by
  exact foldl_keeps _ (·.views) (fun u n => fire_views u r n) _ _
@[simp] theorem takeArrival_view (r : Arrival) (i : Port) : (s.takeArrival r).view i = s.view i := by
  simp only [view, takeArrival_views]
@[simp] theorem takeArrival_sessions (r : Arrival) : (s.takeArrival r).sessions = s.sessions := by
  exact foldl_keeps _ (·.sessions) (fun u n => fire_sessions u r n) _ _
@[simp] theorem takeArrival_session (r : Arrival) (i : Port) : (s.takeArrival r).session i = s.session i := by
  simp only [session, takeArrival_sessions]
@[simp] theorem takeArrival_unreserved (r : Arrival) : (s.takeArrival r).unreserved = s.unreserved := by
  exact foldl_keeps _ (·.unreserved) (fun u n => fire_unreserved u r n) _ _
@[simp] theorem takeArrival_axisRights (r : Arrival) : (s.takeArrival r).axisRights = s.axisRights := by
  exact foldl_keeps _ (·.axisRights) (fun u n => fire_axisRights u r n) _ _
@[simp] theorem takeArrival_axisRight (r : Arrival) (i : Axis) : (s.takeArrival r).axisRight i = s.axisRight i := by
  simp only [axisRight, takeArrival_axisRights]
@[simp] theorem takeArrival_links (r : Arrival) : (s.takeArrival r).links = s.links := by
  exact foldl_keeps _ (·.links) (fun u n => fire_links u r n) _ _
@[simp] theorem takeArrival_link (r : Arrival) (i : Port) : (s.takeArrival r).link i = s.link i := by
  simp only [link, takeArrival_links]
@[simp] theorem takeArrival_grant (r : Arrival) : (s.takeArrival r).grant = s.grant := by
  exact foldl_keeps _ (·.grant) (fun u n => fire_grant u r n) _ _
@[simp] theorem takeArrival_waiting (r : Arrival) : (s.takeArrival r).waiting = s.waiting := by
  exact foldl_keeps _ (·.waiting) (fun u n => fire_waiting u r n) _ _
@[simp] theorem takeArrival_lastServed (r : Arrival) : (s.takeArrival r).lastServed = s.lastServed := by
  exact foldl_keeps _ (·.lastServed) (fun u n => fire_lastServed u r n) _ _

@[simp] theorem takeReferenceRecord_pending (r : Reference) : (s.takeReferenceRecord r).pending = s.pending := by
  exact (foldl_keeps _ (·.pending) (fun u n => dropOne_pending u r n) _ _).trans (setEpochOf_pending s _ _)
@[simp] theorem takeReferenceRecord_tick (r : Reference) : (s.takeReferenceRecord r).tick = s.tick := by
  exact (foldl_keeps _ (·.tick) (fun u n => dropOne_tick u r n) _ _).trans (setEpochOf_tick s _ _)
@[simp] theorem takeReferenceRecord_periods (r : Reference) : (s.takeReferenceRecord r).periods = s.periods := by
  exact (foldl_keeps _ (·.periods) (fun u n => dropOne_periods u r n) _ _).trans (setEpochOf_periods s _ _)
@[simp] theorem takeReferenceRecord_inReset (r : Reference) : (s.takeReferenceRecord r).inReset = s.inReset := by
  exact (foldl_keeps _ (·.inReset) (fun u n => dropOne_inReset u r n) _ _).trans (setEpochOf_inReset s _ _)
@[simp] theorem takeReferenceRecord_resetCause (r : Reference) : (s.takeReferenceRecord r).resetCause = s.resetCause := by
  exact (foldl_keeps _ (·.resetCause) (fun u n => dropOne_resetCause u r n) _ _).trans (setEpochOf_resetCause s _ _)
@[simp] theorem takeReferenceRecord_pins (r : Reference) : (s.takeReferenceRecord r).pins = s.pins := by
  exact (foldl_keeps _ (·.pins) (fun u n => dropOne_pins u r n) _ _).trans (setEpochOf_pins s _ _)
@[simp] theorem takeReferenceRecord_axes (r : Reference) : (s.takeReferenceRecord r).axes = s.axes := by
  exact (foldl_keeps _ (·.axes) (fun u n => dropOne_axes u r n) _ _).trans (setEpochOf_axes s _ _)
@[simp] theorem takeReferenceRecord_axis (r : Reference) (i : Axis) : (s.takeReferenceRecord r).axis i = s.axis i := by
  simp only [axis, takeReferenceRecord_axes]
@[simp] theorem takeReferenceRecord_tableIn (r : Reference) : (s.takeReferenceRecord r).tableIn = s.tableIn := by
  exact (foldl_keeps _ (·.tableIn) (fun u n => dropOne_tableIn u r n) _ _).trans (setEpochOf_tableIn s _ _)
@[simp] theorem takeReferenceRecord_inbox (r : Reference) (i : Axis) : (s.takeReferenceRecord r).inbox i = s.inbox i := by
  simp only [inbox, takeReferenceRecord_tableIn]
@[simp] theorem takeReferenceRecord_views (r : Reference) : (s.takeReferenceRecord r).views = s.views := by
  exact (foldl_keeps _ (·.views) (fun u n => dropOne_views u r n) _ _).trans (setEpochOf_views s _ _)
@[simp] theorem takeReferenceRecord_view (r : Reference) (i : Port) : (s.takeReferenceRecord r).view i = s.view i := by
  simp only [view, takeReferenceRecord_views]
@[simp] theorem takeReferenceRecord_sessions (r : Reference) : (s.takeReferenceRecord r).sessions = s.sessions := by
  exact (foldl_keeps _ (·.sessions) (fun u n => dropOne_sessions u r n) _ _).trans (setEpochOf_sessions s _ _)
@[simp] theorem takeReferenceRecord_session (r : Reference) (i : Port) : (s.takeReferenceRecord r).session i = s.session i := by
  simp only [session, takeReferenceRecord_sessions]
@[simp] theorem takeReferenceRecord_unreserved (r : Reference) : (s.takeReferenceRecord r).unreserved = s.unreserved := by
  exact (foldl_keeps _ (·.unreserved) (fun u n => dropOne_unreserved u r n) _ _).trans (setEpochOf_unreserved s _ _)
@[simp] theorem takeReferenceRecord_axisRights (r : Reference) : (s.takeReferenceRecord r).axisRights = s.axisRights := by
  exact (foldl_keeps _ (·.axisRights) (fun u n => dropOne_axisRights u r n) _ _).trans (setEpochOf_axisRights s _ _)
@[simp] theorem takeReferenceRecord_axisRight (r : Reference) (i : Axis) : (s.takeReferenceRecord r).axisRight i = s.axisRight i := by
  simp only [axisRight, takeReferenceRecord_axisRights]
@[simp] theorem takeReferenceRecord_links (r : Reference) : (s.takeReferenceRecord r).links = s.links := by
  exact (foldl_keeps _ (·.links) (fun u n => dropOne_links u r n) _ _).trans (setEpochOf_links s _ _)
@[simp] theorem takeReferenceRecord_link (r : Reference) (i : Port) : (s.takeReferenceRecord r).link i = s.link i := by
  simp only [link, takeReferenceRecord_links]
@[simp] theorem takeReferenceRecord_grant (r : Reference) : (s.takeReferenceRecord r).grant = s.grant := by
  exact (foldl_keeps _ (·.grant) (fun u n => dropOne_grant u r n) _ _).trans (setEpochOf_grant s _ _)
@[simp] theorem takeReferenceRecord_waiting (r : Reference) : (s.takeReferenceRecord r).waiting = s.waiting := by
  exact (foldl_keeps _ (·.waiting) (fun u n => dropOne_waiting u r n) _ _).trans (setEpochOf_waiting s _ _)
@[simp] theorem takeReferenceRecord_lastServed (r : Reference) : (s.takeReferenceRecord r).lastServed = s.lastServed := by
  exact (foldl_keeps _ (·.lastServed) (fun u n => dropOne_lastServed u r n) _ _).trans (setEpochOf_lastServed s _ _)

@[simp] theorem takeRecord_pending (r : AxisRecord) : (s.takeRecord r).pending = s.pending := by
  cases r <;> simp [takeRecord]
@[simp] theorem takeRecord_tick (r : AxisRecord) : (s.takeRecord r).tick = s.tick := by
  cases r <;> simp [takeRecord]
@[simp] theorem takeRecord_periods (r : AxisRecord) : (s.takeRecord r).periods = s.periods := by
  cases r <;> simp [takeRecord]
@[simp] theorem takeRecord_inReset (r : AxisRecord) : (s.takeRecord r).inReset = s.inReset := by
  cases r <;> simp [takeRecord]
@[simp] theorem takeRecord_resetCause (r : AxisRecord) : (s.takeRecord r).resetCause = s.resetCause := by
  cases r <;> simp [takeRecord]
@[simp] theorem takeRecord_pins (r : AxisRecord) : (s.takeRecord r).pins = s.pins := by
  cases r <;> simp [takeRecord]
@[simp] theorem takeRecord_axes (r : AxisRecord) : (s.takeRecord r).axes = s.axes := by
  cases r <;> simp [takeRecord]
@[simp] theorem takeRecord_axis (r : AxisRecord) (i : Axis) : (s.takeRecord r).axis i = s.axis i := by
  simp only [axis, takeRecord_axes]
@[simp] theorem takeRecord_tableIn (r : AxisRecord) : (s.takeRecord r).tableIn = s.tableIn := by
  cases r <;> simp [takeRecord]
@[simp] theorem takeRecord_inbox (r : AxisRecord) (i : Axis) : (s.takeRecord r).inbox i = s.inbox i := by
  simp only [inbox, takeRecord_tableIn]
@[simp] theorem takeRecord_views (r : AxisRecord) : (s.takeRecord r).views = s.views := by
  cases r <;> simp [takeRecord]
@[simp] theorem takeRecord_view (r : AxisRecord) (i : Port) : (s.takeRecord r).view i = s.view i := by
  simp only [view, takeRecord_views]
@[simp] theorem takeRecord_sessions (r : AxisRecord) : (s.takeRecord r).sessions = s.sessions := by
  cases r <;> simp [takeRecord]
@[simp] theorem takeRecord_session (r : AxisRecord) (i : Port) : (s.takeRecord r).session i = s.session i := by
  simp only [session, takeRecord_sessions]
@[simp] theorem takeRecord_unreserved (r : AxisRecord) : (s.takeRecord r).unreserved = s.unreserved := by
  cases r <;> simp [takeRecord]
@[simp] theorem takeRecord_axisRights (r : AxisRecord) : (s.takeRecord r).axisRights = s.axisRights := by
  cases r <;> simp [takeRecord]
@[simp] theorem takeRecord_axisRight (r : AxisRecord) (i : Axis) : (s.takeRecord r).axisRight i = s.axisRight i := by
  simp only [axisRight, takeRecord_axisRights]
@[simp] theorem takeRecord_links (r : AxisRecord) : (s.takeRecord r).links = s.links := by
  cases r <;> simp [takeRecord]
@[simp] theorem takeRecord_link (r : AxisRecord) (i : Port) : (s.takeRecord r).link i = s.link i := by
  simp only [link, takeRecord_links]
@[simp] theorem takeRecord_grant (r : AxisRecord) : (s.takeRecord r).grant = s.grant := by
  cases r <;> simp [takeRecord]
@[simp] theorem takeRecord_waiting (r : AxisRecord) : (s.takeRecord r).waiting = s.waiting := by
  cases r <;> simp [takeRecord]
@[simp] theorem takeRecord_lastServed (r : AxisRecord) : (s.takeRecord r).lastServed = s.lastServed := by
  cases r <;> simp [takeRecord]

@[simp] theorem drain_pending (a : Axis) : (s.drain a).pending = s.pending := by
  exact (foldl_keeps _ (·.pending) (fun u r => takeRecord_pending u r) _ _).trans (setInbox_pending s _ _)
@[simp] theorem drain_tick (a : Axis) : (s.drain a).tick = s.tick := by
  exact (foldl_keeps _ (·.tick) (fun u r => takeRecord_tick u r) _ _).trans (setInbox_tick s _ _)
@[simp] theorem drain_periods (a : Axis) : (s.drain a).periods = s.periods := by
  exact (foldl_keeps _ (·.periods) (fun u r => takeRecord_periods u r) _ _).trans (setInbox_periods s _ _)
@[simp] theorem drain_inReset (a : Axis) : (s.drain a).inReset = s.inReset := by
  exact (foldl_keeps _ (·.inReset) (fun u r => takeRecord_inReset u r) _ _).trans (setInbox_inReset s _ _)
@[simp] theorem drain_resetCause (a : Axis) : (s.drain a).resetCause = s.resetCause := by
  exact (foldl_keeps _ (·.resetCause) (fun u r => takeRecord_resetCause u r) _ _).trans (setInbox_resetCause s _ _)
@[simp] theorem drain_pins (a : Axis) : (s.drain a).pins = s.pins := by
  exact (foldl_keeps _ (·.pins) (fun u r => takeRecord_pins u r) _ _).trans (setInbox_pins s _ _)
@[simp] theorem drain_axes (a : Axis) : (s.drain a).axes = s.axes := by
  exact (foldl_keeps _ (·.axes) (fun u r => takeRecord_axes u r) _ _).trans (setInbox_axes s _ _)
@[simp] theorem drain_axis (a : Axis) (i : Axis) : (s.drain a).axis i = s.axis i := by
  simp only [axis, drain_axes]
@[simp] theorem drain_views (a : Axis) : (s.drain a).views = s.views := by
  exact (foldl_keeps _ (·.views) (fun u r => takeRecord_views u r) _ _).trans (setInbox_views s _ _)
@[simp] theorem drain_view (a : Axis) (i : Port) : (s.drain a).view i = s.view i := by
  simp only [view, drain_views]
@[simp] theorem drain_sessions (a : Axis) : (s.drain a).sessions = s.sessions := by
  exact (foldl_keeps _ (·.sessions) (fun u r => takeRecord_sessions u r) _ _).trans (setInbox_sessions s _ _)
@[simp] theorem drain_session (a : Axis) (i : Port) : (s.drain a).session i = s.session i := by
  simp only [session, drain_sessions]
@[simp] theorem drain_unreserved (a : Axis) : (s.drain a).unreserved = s.unreserved := by
  exact (foldl_keeps _ (·.unreserved) (fun u r => takeRecord_unreserved u r) _ _).trans (setInbox_unreserved s _ _)
@[simp] theorem drain_axisRights (a : Axis) : (s.drain a).axisRights = s.axisRights := by
  exact (foldl_keeps _ (·.axisRights) (fun u r => takeRecord_axisRights u r) _ _).trans (setInbox_axisRights s _ _)
@[simp] theorem drain_axisRight (a : Axis) (i : Axis) : (s.drain a).axisRight i = s.axisRight i := by
  simp only [axisRight, drain_axisRights]
@[simp] theorem drain_links (a : Axis) : (s.drain a).links = s.links := by
  exact (foldl_keeps _ (·.links) (fun u r => takeRecord_links u r) _ _).trans (setInbox_links s _ _)
@[simp] theorem drain_link (a : Axis) (i : Port) : (s.drain a).link i = s.link i := by
  simp only [link, drain_links]
@[simp] theorem drain_grant (a : Axis) : (s.drain a).grant = s.grant := by
  exact (foldl_keeps _ (·.grant) (fun u r => takeRecord_grant u r) _ _).trans (setInbox_grant s _ _)
@[simp] theorem drain_waiting (a : Axis) : (s.drain a).waiting = s.waiting := by
  exact (foldl_keeps _ (·.waiting) (fun u r => takeRecord_waiting u r) _ _).trans (setInbox_waiting s _ _)
@[simp] theorem drain_lastServed (a : Axis) : (s.drain a).lastServed = s.lastServed := by
  exact (foldl_keeps _ (·.lastServed) (fun u r => takeRecord_lastServed u r) _ _).trans (setInbox_lastServed s _ _)

end State

end Sys2Proof.Machine
end

