-- ==== Sys2Proof/Laws/Axis.lean ====
section
/-!
SUPPORT. What the axis unit's operations leave as it is, one lemma per field.
-/
namespace Sys2Proof.Machine

namespace State

variable (s : State)

/-! ### Counts, skips and references -/

@[simp] theorem forContexts_pending (a : Axis) (g : Context → Context) : (s.forContexts a g).pending = s.pending := by rfl
@[simp] theorem forContexts_tick (a : Axis) (g : Context → Context) : (s.forContexts a g).tick = s.tick := by rfl
@[simp] theorem forContexts_periods (a : Axis) (g : Context → Context) : (s.forContexts a g).periods = s.periods := by rfl
@[simp] theorem forContexts_inReset (a : Axis) (g : Context → Context) : (s.forContexts a g).inReset = s.inReset := by rfl
@[simp] theorem forContexts_resetCause (a : Axis) (g : Context → Context) : (s.forContexts a g).resetCause = s.resetCause := by rfl
@[simp] theorem forContexts_pins (a : Axis) (g : Context → Context) : (s.forContexts a g).pins = s.pins := by rfl
@[simp] theorem forContexts_axes (a : Axis) (g : Context → Context) : (s.forContexts a g).axes = s.axes := by rfl
@[simp] theorem forContexts_axis (a : Axis) (g : Context → Context) (i : Axis) : (s.forContexts a g).axis i = s.axis i := by
  simp only [axis, forContexts_axes]
@[simp] theorem forContexts_slots (a : Axis) (g : Context → Context) : (s.forContexts a g).slots = s.slots := by rfl
@[simp] theorem forContexts_slot (a : Axis) (g : Context → Context) (i : SlotNo) : (s.forContexts a g).slot i = s.slot i := by
  simp only [slot, forContexts_slots]
@[simp] theorem forContexts_armLists (a : Axis) (g : Context → Context) : (s.forContexts a g).armLists = s.armLists := by rfl
@[simp] theorem forContexts_armList (a : Axis) (g : Context → Context) (i : Axis) : (s.forContexts a g).armList i = s.armList i := by
  simp only [armList, forContexts_armLists]
@[simp] theorem forContexts_held (a : Axis) (g : Context → Context) : (s.forContexts a g).held = s.held := by rfl
@[simp] theorem forContexts_heldBy (a : Axis) (g : Context → Context) (i : Port) : (s.forContexts a g).heldBy i = s.heldBy i := by
  simp only [heldBy, forContexts_held]
@[simp] theorem forContexts_tableEpoch (a : Axis) (g : Context → Context) : (s.forContexts a g).tableEpoch = s.tableEpoch := by rfl
@[simp] theorem forContexts_epochOf (a : Axis) (g : Context → Context) (i : Axis) : (s.forContexts a g).epochOf i = s.epochOf i := by
  simp only [epochOf, forContexts_tableEpoch]
@[simp] theorem forContexts_tableIn (a : Axis) (g : Context → Context) : (s.forContexts a g).tableIn = s.tableIn := by rfl
@[simp] theorem forContexts_inbox (a : Axis) (g : Context → Context) (i : Axis) : (s.forContexts a g).inbox i = s.inbox i := by
  simp only [inbox, forContexts_tableIn]
@[simp] theorem forContexts_lines (a : Axis) (g : Context → Context) : (s.forContexts a g).lines = s.lines := by rfl
@[simp] theorem forContexts_line (a : Axis) (g : Context → Context) (i : LineNo) : (s.forContexts a g).line i = s.line i := by
  simp only [line, forContexts_lines]
@[simp] theorem forContexts_notes (a : Axis) (g : Context → Context) : (s.forContexts a g).notes = s.notes := by rfl
@[simp] theorem forContexts_note (a : Axis) (g : Context → Context) (i : Port) : (s.forContexts a g).note i = s.note i := by
  simp only [note, forContexts_notes]
@[simp] theorem forContexts_sessions (a : Axis) (g : Context → Context) : (s.forContexts a g).sessions = s.sessions := by rfl
@[simp] theorem forContexts_session (a : Axis) (g : Context → Context) (i : Port) : (s.forContexts a g).session i = s.session i := by
  simp only [session, forContexts_sessions]
@[simp] theorem forContexts_unreserved (a : Axis) (g : Context → Context) : (s.forContexts a g).unreserved = s.unreserved := by rfl
@[simp] theorem forContexts_axisRights (a : Axis) (g : Context → Context) : (s.forContexts a g).axisRights = s.axisRights := by rfl
@[simp] theorem forContexts_axisRight (a : Axis) (g : Context → Context) (i : Axis) : (s.forContexts a g).axisRight i = s.axisRight i := by
  simp only [axisRight, forContexts_axisRights]
@[simp] theorem forContexts_links (a : Axis) (g : Context → Context) : (s.forContexts a g).links = s.links := by rfl
@[simp] theorem forContexts_link (a : Axis) (g : Context → Context) (i : Port) : (s.forContexts a g).link i = s.link i := by
  simp only [link, forContexts_links]
@[simp] theorem forContexts_grant (a : Axis) (g : Context → Context) : (s.forContexts a g).grant = s.grant := by rfl
@[simp] theorem forContexts_waiting (a : Axis) (g : Context → Context) : (s.forContexts a g).waiting = s.waiting := by rfl
@[simp] theorem forContexts_lastServed (a : Axis) (g : Context → Context) : (s.forContexts a g).lastServed = s.lastServed := by rfl

@[simp] theorem handToTable_pending (a : Axis) (r : AxisRecord) : (s.handToTable a r).pending = s.pending := by simp [handToTable]
@[simp] theorem handToTable_tick (a : Axis) (r : AxisRecord) : (s.handToTable a r).tick = s.tick := by simp [handToTable]
@[simp] theorem handToTable_periods (a : Axis) (r : AxisRecord) : (s.handToTable a r).periods = s.periods := by simp [handToTable]
@[simp] theorem handToTable_inReset (a : Axis) (r : AxisRecord) : (s.handToTable a r).inReset = s.inReset := by simp [handToTable]
@[simp] theorem handToTable_resetCause (a : Axis) (r : AxisRecord) : (s.handToTable a r).resetCause = s.resetCause := by simp [handToTable]
@[simp] theorem handToTable_pins (a : Axis) (r : AxisRecord) : (s.handToTable a r).pins = s.pins := by simp [handToTable]
@[simp] theorem handToTable_axes (a : Axis) (r : AxisRecord) : (s.handToTable a r).axes = s.axes := by simp [handToTable]
@[simp] theorem handToTable_axis (a : Axis) (r : AxisRecord) (i : Axis) : (s.handToTable a r).axis i = s.axis i := by
  simp only [axis, handToTable_axes]
@[simp] theorem handToTable_slots (a : Axis) (r : AxisRecord) : (s.handToTable a r).slots = s.slots := by simp [handToTable]
@[simp] theorem handToTable_slot (a : Axis) (r : AxisRecord) (i : SlotNo) : (s.handToTable a r).slot i = s.slot i := by
  simp only [slot, handToTable_slots]
@[simp] theorem handToTable_armLists (a : Axis) (r : AxisRecord) : (s.handToTable a r).armLists = s.armLists := by simp [handToTable]
@[simp] theorem handToTable_armList (a : Axis) (r : AxisRecord) (i : Axis) : (s.handToTable a r).armList i = s.armList i := by
  simp only [armList, handToTable_armLists]
@[simp] theorem handToTable_held (a : Axis) (r : AxisRecord) : (s.handToTable a r).held = s.held := by simp [handToTable]
@[simp] theorem handToTable_heldBy (a : Axis) (r : AxisRecord) (i : Port) : (s.handToTable a r).heldBy i = s.heldBy i := by
  simp only [heldBy, handToTable_held]
@[simp] theorem handToTable_tableEpoch (a : Axis) (r : AxisRecord) : (s.handToTable a r).tableEpoch = s.tableEpoch := by simp [handToTable]
@[simp] theorem handToTable_epochOf (a : Axis) (r : AxisRecord) (i : Axis) : (s.handToTable a r).epochOf i = s.epochOf i := by
  simp only [epochOf, handToTable_tableEpoch]
@[simp] theorem handToTable_lines (a : Axis) (r : AxisRecord) : (s.handToTable a r).lines = s.lines := by simp [handToTable]
@[simp] theorem handToTable_line (a : Axis) (r : AxisRecord) (i : LineNo) : (s.handToTable a r).line i = s.line i := by
  simp only [line, handToTable_lines]
@[simp] theorem handToTable_notes (a : Axis) (r : AxisRecord) : (s.handToTable a r).notes = s.notes := by simp [handToTable]
@[simp] theorem handToTable_note (a : Axis) (r : AxisRecord) (i : Port) : (s.handToTable a r).note i = s.note i := by
  simp only [note, handToTable_notes]
@[simp] theorem handToTable_views (a : Axis) (r : AxisRecord) : (s.handToTable a r).views = s.views := by simp [handToTable]
@[simp] theorem handToTable_view (a : Axis) (r : AxisRecord) (i : Port) : (s.handToTable a r).view i = s.view i := by
  simp only [view, handToTable_views]
@[simp] theorem handToTable_sessions (a : Axis) (r : AxisRecord) : (s.handToTable a r).sessions = s.sessions := by simp [handToTable]
@[simp] theorem handToTable_session (a : Axis) (r : AxisRecord) (i : Port) : (s.handToTable a r).session i = s.session i := by
  simp only [session, handToTable_sessions]
@[simp] theorem handToTable_unreserved (a : Axis) (r : AxisRecord) : (s.handToTable a r).unreserved = s.unreserved := by simp [handToTable]
@[simp] theorem handToTable_axisRights (a : Axis) (r : AxisRecord) : (s.handToTable a r).axisRights = s.axisRights := by simp [handToTable]
@[simp] theorem handToTable_axisRight (a : Axis) (r : AxisRecord) (i : Axis) : (s.handToTable a r).axisRight i = s.axisRight i := by
  simp only [axisRight, handToTable_axisRights]
@[simp] theorem handToTable_links (a : Axis) (r : AxisRecord) : (s.handToTable a r).links = s.links := by simp [handToTable]
@[simp] theorem handToTable_link (a : Axis) (r : AxisRecord) (i : Port) : (s.handToTable a r).link i = s.link i := by
  simp only [link, handToTable_links]
@[simp] theorem handToTable_grant (a : Axis) (r : AxisRecord) : (s.handToTable a r).grant = s.grant := by simp [handToTable]
@[simp] theorem handToTable_waiting (a : Axis) (r : AxisRecord) : (s.handToTable a r).waiting = s.waiting := by simp [handToTable]
@[simp] theorem handToTable_lastServed (a : Axis) (r : AxisRecord) : (s.handToTable a r).lastServed = s.lastServed := by simp [handToTable]

@[simp] theorem shareEvent_pending (a : Axis) (makers : Makers) (now : Bool) (note : Option Report) : (s.shareEvent a makers now note).pending = s.pending := by
  unfold shareEvent; dsimp only; split <;> simp
@[simp] theorem shareEvent_tick (a : Axis) (makers : Makers) (now : Bool) (note : Option Report) : (s.shareEvent a makers now note).tick = s.tick := by
  unfold shareEvent; dsimp only; split <;> simp
@[simp] theorem shareEvent_periods (a : Axis) (makers : Makers) (now : Bool) (note : Option Report) : (s.shareEvent a makers now note).periods = s.periods := by
  unfold shareEvent; dsimp only; split <;> simp
@[simp] theorem shareEvent_inReset (a : Axis) (makers : Makers) (now : Bool) (note : Option Report) : (s.shareEvent a makers now note).inReset = s.inReset := by
  unfold shareEvent; dsimp only; split <;> simp
@[simp] theorem shareEvent_resetCause (a : Axis) (makers : Makers) (now : Bool) (note : Option Report) : (s.shareEvent a makers now note).resetCause = s.resetCause := by
  unfold shareEvent; dsimp only; split <;> simp
@[simp] theorem shareEvent_pins (a : Axis) (makers : Makers) (now : Bool) (note : Option Report) : (s.shareEvent a makers now note).pins = s.pins := by
  unfold shareEvent; dsimp only; split <;> simp
@[simp] theorem shareEvent_axes (a : Axis) (makers : Makers) (now : Bool) (note : Option Report) : (s.shareEvent a makers now note).axes = s.axes := by
  unfold shareEvent; dsimp only; split <;> simp
@[simp] theorem shareEvent_axis (a : Axis) (makers : Makers) (now : Bool) (note : Option Report) (i : Axis) : (s.shareEvent a makers now note).axis i = s.axis i := by
  simp only [axis, shareEvent_axes]
@[simp] theorem shareEvent_views (a : Axis) (makers : Makers) (now : Bool) (note : Option Report) : (s.shareEvent a makers now note).views = s.views := by
  unfold shareEvent; dsimp only; split <;> simp
@[simp] theorem shareEvent_view (a : Axis) (makers : Makers) (now : Bool) (note : Option Report) (i : Port) : (s.shareEvent a makers now note).view i = s.view i := by
  simp only [view, shareEvent_views]
@[simp] theorem shareEvent_sessions (a : Axis) (makers : Makers) (now : Bool) (note : Option Report) : (s.shareEvent a makers now note).sessions = s.sessions := by
  unfold shareEvent; dsimp only; split <;> simp
@[simp] theorem shareEvent_session (a : Axis) (makers : Makers) (now : Bool) (note : Option Report) (i : Port) : (s.shareEvent a makers now note).session i = s.session i := by
  simp only [session, shareEvent_sessions]
@[simp] theorem shareEvent_unreserved (a : Axis) (makers : Makers) (now : Bool) (note : Option Report) : (s.shareEvent a makers now note).unreserved = s.unreserved := by
  unfold shareEvent; dsimp only; split <;> simp
@[simp] theorem shareEvent_axisRights (a : Axis) (makers : Makers) (now : Bool) (note : Option Report) : (s.shareEvent a makers now note).axisRights = s.axisRights := by
  unfold shareEvent; dsimp only; split <;> simp
@[simp] theorem shareEvent_axisRight (a : Axis) (makers : Makers) (now : Bool) (note : Option Report) (i : Axis) : (s.shareEvent a makers now note).axisRight i = s.axisRight i := by
  simp only [axisRight, shareEvent_axisRights]
@[simp] theorem shareEvent_links (a : Axis) (makers : Makers) (now : Bool) (note : Option Report) : (s.shareEvent a makers now note).links = s.links := by
  unfold shareEvent; dsimp only; split <;> simp
@[simp] theorem shareEvent_link (a : Axis) (makers : Makers) (now : Bool) (note : Option Report) (i : Port) : (s.shareEvent a makers now note).link i = s.link i := by
  simp only [link, shareEvent_links]
@[simp] theorem shareEvent_grant (a : Axis) (makers : Makers) (now : Bool) (note : Option Report) : (s.shareEvent a makers now note).grant = s.grant := by
  unfold shareEvent; dsimp only; split <;> simp
@[simp] theorem shareEvent_waiting (a : Axis) (makers : Makers) (now : Bool) (note : Option Report) : (s.shareEvent a makers now note).waiting = s.waiting := by
  unfold shareEvent; dsimp only; split <;> simp
@[simp] theorem shareEvent_lastServed (a : Axis) (makers : Makers) (now : Bool) (note : Option Report) : (s.shareEvent a makers now note).lastServed = s.lastServed := by
  unfold shareEvent; dsimp only; split <;> simp

@[simp] theorem countMoved_pending (a : Axis) (dir : CountDir) : (s.countMoved a dir).pending = s.pending := by simp [countMoved]
@[simp] theorem countMoved_tick (a : Axis) (dir : CountDir) : (s.countMoved a dir).tick = s.tick := by simp [countMoved]
@[simp] theorem countMoved_periods (a : Axis) (dir : CountDir) : (s.countMoved a dir).periods = s.periods := by simp [countMoved]
@[simp] theorem countMoved_inReset (a : Axis) (dir : CountDir) : (s.countMoved a dir).inReset = s.inReset := by simp [countMoved]
@[simp] theorem countMoved_resetCause (a : Axis) (dir : CountDir) : (s.countMoved a dir).resetCause = s.resetCause := by simp [countMoved]
@[simp] theorem countMoved_pins (a : Axis) (dir : CountDir) : (s.countMoved a dir).pins = s.pins := by simp [countMoved]
@[simp] theorem countMoved_slots (a : Axis) (dir : CountDir) : (s.countMoved a dir).slots = s.slots := by simp [countMoved]
@[simp] theorem countMoved_slot (a : Axis) (dir : CountDir) (i : SlotNo) : (s.countMoved a dir).slot i = s.slot i := by
  simp only [slot, countMoved_slots]
@[simp] theorem countMoved_armLists (a : Axis) (dir : CountDir) : (s.countMoved a dir).armLists = s.armLists := by simp [countMoved]
@[simp] theorem countMoved_armList (a : Axis) (dir : CountDir) (i : Axis) : (s.countMoved a dir).armList i = s.armList i := by
  simp only [armList, countMoved_armLists]
@[simp] theorem countMoved_held (a : Axis) (dir : CountDir) : (s.countMoved a dir).held = s.held := by simp [countMoved]
@[simp] theorem countMoved_heldBy (a : Axis) (dir : CountDir) (i : Port) : (s.countMoved a dir).heldBy i = s.heldBy i := by
  simp only [heldBy, countMoved_held]
@[simp] theorem countMoved_tableEpoch (a : Axis) (dir : CountDir) : (s.countMoved a dir).tableEpoch = s.tableEpoch := by simp [countMoved]
@[simp] theorem countMoved_epochOf (a : Axis) (dir : CountDir) (i : Axis) : (s.countMoved a dir).epochOf i = s.epochOf i := by
  simp only [epochOf, countMoved_tableEpoch]
@[simp] theorem countMoved_lines (a : Axis) (dir : CountDir) : (s.countMoved a dir).lines = s.lines := by simp [countMoved]
@[simp] theorem countMoved_line (a : Axis) (dir : CountDir) (i : LineNo) : (s.countMoved a dir).line i = s.line i := by
  simp only [line, countMoved_lines]
@[simp] theorem countMoved_notes (a : Axis) (dir : CountDir) : (s.countMoved a dir).notes = s.notes := by simp [countMoved]
@[simp] theorem countMoved_note (a : Axis) (dir : CountDir) (i : Port) : (s.countMoved a dir).note i = s.note i := by
  simp only [note, countMoved_notes]
@[simp] theorem countMoved_sessions (a : Axis) (dir : CountDir) : (s.countMoved a dir).sessions = s.sessions := by simp [countMoved]
@[simp] theorem countMoved_session (a : Axis) (dir : CountDir) (i : Port) : (s.countMoved a dir).session i = s.session i := by
  simp only [session, countMoved_sessions]
@[simp] theorem countMoved_unreserved (a : Axis) (dir : CountDir) : (s.countMoved a dir).unreserved = s.unreserved := by simp [countMoved]
@[simp] theorem countMoved_axisRights (a : Axis) (dir : CountDir) : (s.countMoved a dir).axisRights = s.axisRights := by simp [countMoved]
@[simp] theorem countMoved_axisRight (a : Axis) (dir : CountDir) (i : Axis) : (s.countMoved a dir).axisRight i = s.axisRight i := by
  simp only [axisRight, countMoved_axisRights]
@[simp] theorem countMoved_links (a : Axis) (dir : CountDir) : (s.countMoved a dir).links = s.links := by simp [countMoved]
@[simp] theorem countMoved_link (a : Axis) (dir : CountDir) (i : Port) : (s.countMoved a dir).link i = s.link i := by
  simp only [link, countMoved_links]
@[simp] theorem countMoved_grant (a : Axis) (dir : CountDir) : (s.countMoved a dir).grant = s.grant := by simp [countMoved]
@[simp] theorem countMoved_waiting (a : Axis) (dir : CountDir) : (s.countMoved a dir).waiting = s.waiting := by simp [countMoved]
@[simp] theorem countMoved_lastServed (a : Axis) (dir : CountDir) : (s.countMoved a dir).lastServed = s.lastServed := by simp [countMoved]

@[simp] theorem countArrival_pending (a : Axis) (dir : CountDir) (makers : Makers) : (s.countArrival a dir makers).pending = s.pending := by 
  simp [countArrival]
@[simp] theorem countArrival_tick (a : Axis) (dir : CountDir) (makers : Makers) : (s.countArrival a dir makers).tick = s.tick := by 
  simp [countArrival]
@[simp] theorem countArrival_periods (a : Axis) (dir : CountDir) (makers : Makers) : (s.countArrival a dir makers).periods = s.periods := by 
  simp [countArrival]
@[simp] theorem countArrival_inReset (a : Axis) (dir : CountDir) (makers : Makers) : (s.countArrival a dir makers).inReset = s.inReset := by 
  simp [countArrival]
@[simp] theorem countArrival_resetCause (a : Axis) (dir : CountDir) (makers : Makers) : (s.countArrival a dir makers).resetCause = s.resetCause := by 
  simp [countArrival]
@[simp] theorem countArrival_pins (a : Axis) (dir : CountDir) (makers : Makers) : (s.countArrival a dir makers).pins = s.pins := by 
  simp [countArrival]
@[simp] theorem countArrival_sessions (a : Axis) (dir : CountDir) (makers : Makers) : (s.countArrival a dir makers).sessions = s.sessions := by 
  simp [countArrival]
@[simp] theorem countArrival_session (a : Axis) (dir : CountDir) (makers : Makers) (i : Port) : (s.countArrival a dir makers).session i = s.session i := by
  simp only [session, countArrival_sessions]
@[simp] theorem countArrival_unreserved (a : Axis) (dir : CountDir) (makers : Makers) : (s.countArrival a dir makers).unreserved = s.unreserved := by 
  simp [countArrival]
@[simp] theorem countArrival_axisRights (a : Axis) (dir : CountDir) (makers : Makers) : (s.countArrival a dir makers).axisRights = s.axisRights := by 
  simp [countArrival]
@[simp] theorem countArrival_axisRight (a : Axis) (dir : CountDir) (makers : Makers) (i : Axis) : (s.countArrival a dir makers).axisRight i = s.axisRight i := by
  simp only [axisRight, countArrival_axisRights]
@[simp] theorem countArrival_links (a : Axis) (dir : CountDir) (makers : Makers) : (s.countArrival a dir makers).links = s.links := by 
  simp [countArrival]
@[simp] theorem countArrival_link (a : Axis) (dir : CountDir) (makers : Makers) (i : Port) : (s.countArrival a dir makers).link i = s.link i := by
  simp only [link, countArrival_links]
@[simp] theorem countArrival_grant (a : Axis) (dir : CountDir) (makers : Makers) : (s.countArrival a dir makers).grant = s.grant := by 
  simp [countArrival]
@[simp] theorem countArrival_waiting (a : Axis) (dir : CountDir) (makers : Makers) : (s.countArrival a dir makers).waiting = s.waiting := by 
  simp [countArrival]
@[simp] theorem countArrival_lastServed (a : Axis) (dir : CountDir) (makers : Makers) : (s.countArrival a dir makers).lastServed = s.lastServed := by 
  simp [countArrival]

@[simp] theorem phaseSkip_pending (a : Axis) : (s.phaseSkip a).pending = s.pending := by unfold phaseSkip; dsimp only; split <;> simp
@[simp] theorem phaseSkip_tick (a : Axis) : (s.phaseSkip a).tick = s.tick := by unfold phaseSkip; dsimp only; split <;> simp
@[simp] theorem phaseSkip_periods (a : Axis) : (s.phaseSkip a).periods = s.periods := by unfold phaseSkip; dsimp only; split <;> simp
@[simp] theorem phaseSkip_inReset (a : Axis) : (s.phaseSkip a).inReset = s.inReset := by unfold phaseSkip; dsimp only; split <;> simp
@[simp] theorem phaseSkip_resetCause (a : Axis) : (s.phaseSkip a).resetCause = s.resetCause := by unfold phaseSkip; dsimp only; split <;> simp
@[simp] theorem phaseSkip_pins (a : Axis) : (s.phaseSkip a).pins = s.pins := by unfold phaseSkip; dsimp only; split <;> simp
@[simp] theorem phaseSkip_slots (a : Axis) : (s.phaseSkip a).slots = s.slots := by unfold phaseSkip; dsimp only; split <;> simp
@[simp] theorem phaseSkip_slot (a : Axis) (i : SlotNo) : (s.phaseSkip a).slot i = s.slot i := by
  simp only [slot, phaseSkip_slots]
@[simp] theorem phaseSkip_armLists (a : Axis) : (s.phaseSkip a).armLists = s.armLists := by unfold phaseSkip; dsimp only; split <;> simp
@[simp] theorem phaseSkip_armList (a : Axis) (i : Axis) : (s.phaseSkip a).armList i = s.armList i := by
  simp only [armList, phaseSkip_armLists]
@[simp] theorem phaseSkip_held (a : Axis) : (s.phaseSkip a).held = s.held := by unfold phaseSkip; dsimp only; split <;> simp
@[simp] theorem phaseSkip_heldBy (a : Axis) (i : Port) : (s.phaseSkip a).heldBy i = s.heldBy i := by
  simp only [heldBy, phaseSkip_held]
@[simp] theorem phaseSkip_tableEpoch (a : Axis) : (s.phaseSkip a).tableEpoch = s.tableEpoch := by unfold phaseSkip; dsimp only; split <;> simp
@[simp] theorem phaseSkip_epochOf (a : Axis) (i : Axis) : (s.phaseSkip a).epochOf i = s.epochOf i := by
  simp only [epochOf, phaseSkip_tableEpoch]
@[simp] theorem phaseSkip_tableIn (a : Axis) : (s.phaseSkip a).tableIn = s.tableIn := by unfold phaseSkip; dsimp only; split <;> simp
@[simp] theorem phaseSkip_inbox (a : Axis) (i : Axis) : (s.phaseSkip a).inbox i = s.inbox i := by
  simp only [inbox, phaseSkip_tableIn]
@[simp] theorem phaseSkip_lines (a : Axis) : (s.phaseSkip a).lines = s.lines := by unfold phaseSkip; dsimp only; split <;> simp
@[simp] theorem phaseSkip_line (a : Axis) (i : LineNo) : (s.phaseSkip a).line i = s.line i := by
  simp only [line, phaseSkip_lines]
@[simp] theorem phaseSkip_sessions (a : Axis) : (s.phaseSkip a).sessions = s.sessions := by unfold phaseSkip; dsimp only; split <;> simp
@[simp] theorem phaseSkip_session (a : Axis) (i : Port) : (s.phaseSkip a).session i = s.session i := by
  simp only [session, phaseSkip_sessions]
@[simp] theorem phaseSkip_unreserved (a : Axis) : (s.phaseSkip a).unreserved = s.unreserved := by unfold phaseSkip; dsimp only; split <;> simp
@[simp] theorem phaseSkip_axisRights (a : Axis) : (s.phaseSkip a).axisRights = s.axisRights := by unfold phaseSkip; dsimp only; split <;> simp
@[simp] theorem phaseSkip_axisRight (a : Axis) (i : Axis) : (s.phaseSkip a).axisRight i = s.axisRight i := by
  simp only [axisRight, phaseSkip_axisRights]
@[simp] theorem phaseSkip_links (a : Axis) : (s.phaseSkip a).links = s.links := by unfold phaseSkip; dsimp only; split <;> simp
@[simp] theorem phaseSkip_link (a : Axis) (i : Port) : (s.phaseSkip a).link i = s.link i := by
  simp only [link, phaseSkip_links]
@[simp] theorem phaseSkip_grant (a : Axis) : (s.phaseSkip a).grant = s.grant := by unfold phaseSkip; dsimp only; split <;> simp
@[simp] theorem phaseSkip_waiting (a : Axis) : (s.phaseSkip a).waiting = s.waiting := by unfold phaseSkip; dsimp only; split <;> simp
@[simp] theorem phaseSkip_lastServed (a : Axis) : (s.phaseSkip a).lastServed = s.lastServed := by unfold phaseSkip; dsimp only; split <;> simp

@[simp] theorem referenceMoved_pending (a : Axis) (reason : Reason) (v : Word) : (s.referenceMoved a reason v).pending = s.pending := by 
  simp [referenceMoved]
@[simp] theorem referenceMoved_tick (a : Axis) (reason : Reason) (v : Word) : (s.referenceMoved a reason v).tick = s.tick := by 
  simp [referenceMoved]
@[simp] theorem referenceMoved_periods (a : Axis) (reason : Reason) (v : Word) : (s.referenceMoved a reason v).periods = s.periods := by 
  simp [referenceMoved]
@[simp] theorem referenceMoved_inReset (a : Axis) (reason : Reason) (v : Word) : (s.referenceMoved a reason v).inReset = s.inReset := by 
  simp [referenceMoved]
@[simp] theorem referenceMoved_resetCause (a : Axis) (reason : Reason) (v : Word) : (s.referenceMoved a reason v).resetCause = s.resetCause := by 
  simp [referenceMoved]
@[simp] theorem referenceMoved_pins (a : Axis) (reason : Reason) (v : Word) : (s.referenceMoved a reason v).pins = s.pins := by 
  simp [referenceMoved]
@[simp] theorem referenceMoved_slots (a : Axis) (reason : Reason) (v : Word) : (s.referenceMoved a reason v).slots = s.slots := by 
  simp [referenceMoved]
@[simp] theorem referenceMoved_slot (a : Axis) (reason : Reason) (v : Word) (i : SlotNo) : (s.referenceMoved a reason v).slot i = s.slot i := by
  simp only [slot, referenceMoved_slots]
@[simp] theorem referenceMoved_armLists (a : Axis) (reason : Reason) (v : Word) : (s.referenceMoved a reason v).armLists = s.armLists := by 
  simp [referenceMoved]
@[simp] theorem referenceMoved_armList (a : Axis) (reason : Reason) (v : Word) (i : Axis) : (s.referenceMoved a reason v).armList i = s.armList i := by
  simp only [armList, referenceMoved_armLists]
@[simp] theorem referenceMoved_held (a : Axis) (reason : Reason) (v : Word) : (s.referenceMoved a reason v).held = s.held := by 
  simp [referenceMoved]
@[simp] theorem referenceMoved_heldBy (a : Axis) (reason : Reason) (v : Word) (i : Port) : (s.referenceMoved a reason v).heldBy i = s.heldBy i := by
  simp only [heldBy, referenceMoved_held]
@[simp] theorem referenceMoved_tableEpoch (a : Axis) (reason : Reason) (v : Word) : (s.referenceMoved a reason v).tableEpoch = s.tableEpoch := by 
  simp [referenceMoved]
@[simp] theorem referenceMoved_epochOf (a : Axis) (reason : Reason) (v : Word) (i : Axis) : (s.referenceMoved a reason v).epochOf i = s.epochOf i := by
  simp only [epochOf, referenceMoved_tableEpoch]
@[simp] theorem referenceMoved_lines (a : Axis) (reason : Reason) (v : Word) : (s.referenceMoved a reason v).lines = s.lines := by 
  simp [referenceMoved]
@[simp] theorem referenceMoved_line (a : Axis) (reason : Reason) (v : Word) (i : LineNo) : (s.referenceMoved a reason v).line i = s.line i := by
  simp only [line, referenceMoved_lines]
@[simp] theorem referenceMoved_notes (a : Axis) (reason : Reason) (v : Word) : (s.referenceMoved a reason v).notes = s.notes := by 
  simp [referenceMoved]
@[simp] theorem referenceMoved_note (a : Axis) (reason : Reason) (v : Word) (i : Port) : (s.referenceMoved a reason v).note i = s.note i := by
  simp only [note, referenceMoved_notes]
@[simp] theorem referenceMoved_sessions (a : Axis) (reason : Reason) (v : Word) : (s.referenceMoved a reason v).sessions = s.sessions := by 
  simp [referenceMoved]
@[simp] theorem referenceMoved_session (a : Axis) (reason : Reason) (v : Word) (i : Port) : (s.referenceMoved a reason v).session i = s.session i := by
  simp only [session, referenceMoved_sessions]
@[simp] theorem referenceMoved_unreserved (a : Axis) (reason : Reason) (v : Word) : (s.referenceMoved a reason v).unreserved = s.unreserved := by 
  simp [referenceMoved]
@[simp] theorem referenceMoved_axisRights (a : Axis) (reason : Reason) (v : Word) : (s.referenceMoved a reason v).axisRights = s.axisRights := by 
  simp [referenceMoved]
@[simp] theorem referenceMoved_axisRight (a : Axis) (reason : Reason) (v : Word) (i : Axis) : (s.referenceMoved a reason v).axisRight i = s.axisRight i := by
  simp only [axisRight, referenceMoved_axisRights]
@[simp] theorem referenceMoved_links (a : Axis) (reason : Reason) (v : Word) : (s.referenceMoved a reason v).links = s.links := by 
  simp [referenceMoved]
@[simp] theorem referenceMoved_link (a : Axis) (reason : Reason) (v : Word) (i : Port) : (s.referenceMoved a reason v).link i = s.link i := by
  simp only [link, referenceMoved_links]
@[simp] theorem referenceMoved_grant (a : Axis) (reason : Reason) (v : Word) : (s.referenceMoved a reason v).grant = s.grant := by 
  simp [referenceMoved]
@[simp] theorem referenceMoved_waiting (a : Axis) (reason : Reason) (v : Word) : (s.referenceMoved a reason v).waiting = s.waiting := by 
  simp [referenceMoved]
@[simp] theorem referenceMoved_lastServed (a : Axis) (reason : Reason) (v : Word) : (s.referenceMoved a reason v).lastServed = s.lastServed := by 
  simp [referenceMoved]

@[simp] theorem edgeReference_pending (a : Axis) (reason : Reason) (v : Word) (makers : Makers) : (s.edgeReference a reason v makers).pending = s.pending := by 
  simp [edgeReference]
@[simp] theorem edgeReference_tick (a : Axis) (reason : Reason) (v : Word) (makers : Makers) : (s.edgeReference a reason v makers).tick = s.tick := by 
  simp [edgeReference]
@[simp] theorem edgeReference_periods (a : Axis) (reason : Reason) (v : Word) (makers : Makers) : (s.edgeReference a reason v makers).periods = s.periods := by 
  simp [edgeReference]
@[simp] theorem edgeReference_inReset (a : Axis) (reason : Reason) (v : Word) (makers : Makers) : (s.edgeReference a reason v makers).inReset = s.inReset := by 
  simp [edgeReference]
@[simp] theorem edgeReference_resetCause (a : Axis) (reason : Reason) (v : Word) (makers : Makers) : (s.edgeReference a reason v makers).resetCause = s.resetCause := by 
  simp [edgeReference]
@[simp] theorem edgeReference_pins (a : Axis) (reason : Reason) (v : Word) (makers : Makers) : (s.edgeReference a reason v makers).pins = s.pins := by 
  simp [edgeReference]
@[simp] theorem edgeReference_sessions (a : Axis) (reason : Reason) (v : Word) (makers : Makers) : (s.edgeReference a reason v makers).sessions = s.sessions := by 
  simp [edgeReference]
@[simp] theorem edgeReference_session (a : Axis) (reason : Reason) (v : Word) (makers : Makers) (i : Port) : (s.edgeReference a reason v makers).session i = s.session i := by
  simp only [session, edgeReference_sessions]
@[simp] theorem edgeReference_unreserved (a : Axis) (reason : Reason) (v : Word) (makers : Makers) : (s.edgeReference a reason v makers).unreserved = s.unreserved := by 
  simp [edgeReference]
@[simp] theorem edgeReference_axisRights (a : Axis) (reason : Reason) (v : Word) (makers : Makers) : (s.edgeReference a reason v makers).axisRights = s.axisRights := by 
  simp [edgeReference]
@[simp] theorem edgeReference_axisRight (a : Axis) (reason : Reason) (v : Word) (makers : Makers) (i : Axis) : (s.edgeReference a reason v makers).axisRight i = s.axisRight i := by
  simp only [axisRight, edgeReference_axisRights]
@[simp] theorem edgeReference_links (a : Axis) (reason : Reason) (v : Word) (makers : Makers) : (s.edgeReference a reason v makers).links = s.links := by 
  simp [edgeReference]
@[simp] theorem edgeReference_link (a : Axis) (reason : Reason) (v : Word) (makers : Makers) (i : Port) : (s.edgeReference a reason v makers).link i = s.link i := by
  simp only [link, edgeReference_links]
@[simp] theorem edgeReference_grant (a : Axis) (reason : Reason) (v : Word) (makers : Makers) : (s.edgeReference a reason v makers).grant = s.grant := by 
  simp [edgeReference]
@[simp] theorem edgeReference_waiting (a : Axis) (reason : Reason) (v : Word) (makers : Makers) : (s.edgeReference a reason v makers).waiting = s.waiting := by 
  simp [edgeReference]
@[simp] theorem edgeReference_lastServed (a : Axis) (reason : Reason) (v : Word) (makers : Makers) : (s.edgeReference a reason v makers).lastServed = s.lastServed := by 
  simp [edgeReference]

@[simp] theorem commandReference_pending (a : Axis) (reason : Reason) (v : Word) (makers : Makers) : (s.commandReference a reason v makers).pending = s.pending := by 
  simp [commandReference]
@[simp] theorem commandReference_tick (a : Axis) (reason : Reason) (v : Word) (makers : Makers) : (s.commandReference a reason v makers).tick = s.tick := by 
  simp [commandReference]
@[simp] theorem commandReference_periods (a : Axis) (reason : Reason) (v : Word) (makers : Makers) : (s.commandReference a reason v makers).periods = s.periods := by 
  simp [commandReference]
@[simp] theorem commandReference_inReset (a : Axis) (reason : Reason) (v : Word) (makers : Makers) : (s.commandReference a reason v makers).inReset = s.inReset := by 
  simp [commandReference]
@[simp] theorem commandReference_resetCause (a : Axis) (reason : Reason) (v : Word) (makers : Makers) : (s.commandReference a reason v makers).resetCause = s.resetCause := by 
  simp [commandReference]
@[simp] theorem commandReference_pins (a : Axis) (reason : Reason) (v : Word) (makers : Makers) : (s.commandReference a reason v makers).pins = s.pins := by 
  simp [commandReference]
@[simp] theorem commandReference_sessions (a : Axis) (reason : Reason) (v : Word) (makers : Makers) : (s.commandReference a reason v makers).sessions = s.sessions := by 
  simp [commandReference]
@[simp] theorem commandReference_session (a : Axis) (reason : Reason) (v : Word) (makers : Makers) (i : Port) : (s.commandReference a reason v makers).session i = s.session i := by
  simp only [session, commandReference_sessions]
@[simp] theorem commandReference_unreserved (a : Axis) (reason : Reason) (v : Word) (makers : Makers) : (s.commandReference a reason v makers).unreserved = s.unreserved := by 
  simp [commandReference]
@[simp] theorem commandReference_axisRights (a : Axis) (reason : Reason) (v : Word) (makers : Makers) : (s.commandReference a reason v makers).axisRights = s.axisRights := by 
  simp [commandReference]
@[simp] theorem commandReference_axisRight (a : Axis) (reason : Reason) (v : Word) (makers : Makers) (i : Axis) : (s.commandReference a reason v makers).axisRight i = s.axisRight i := by
  simp only [axisRight, commandReference_axisRights]
@[simp] theorem commandReference_links (a : Axis) (reason : Reason) (v : Word) (makers : Makers) : (s.commandReference a reason v makers).links = s.links := by 
  simp [commandReference]
@[simp] theorem commandReference_link (a : Axis) (reason : Reason) (v : Word) (makers : Makers) (i : Port) : (s.commandReference a reason v makers).link i = s.link i := by
  simp only [link, commandReference_links]
@[simp] theorem commandReference_grant (a : Axis) (reason : Reason) (v : Word) (makers : Makers) : (s.commandReference a reason v makers).grant = s.grant := by 
  simp [commandReference]
@[simp] theorem commandReference_waiting (a : Axis) (reason : Reason) (v : Word) (makers : Makers) : (s.commandReference a reason v makers).waiting = s.waiting := by 
  simp [commandReference]
@[simp] theorem commandReference_lastServed (a : Axis) (reason : Reason) (v : Word) (makers : Makers) : (s.commandReference a reason v makers).lastServed = s.lastServed := by 
  simp [commandReference]

end State

end Sys2Proof.Machine
end

