-- ==== Sys2Proof/Laws/Counting.lean ====
section
/-!
SUPPORT. What a count arrival, a reference and a routed note do, said once.
-/
namespace Sys2Proof.Machine

/-! ### Numbers -/

theorem toInt_add_one_of_lt (p : Word) (h : p.toInt < 2147483647) : (p + 1).toInt = p.toInt + 1 := by
  have := BitVec.le_toInt p
  rw [BitVec.toInt_add]
  simp
  rw [Int.bmod_def]
  simp at *
  split <;> omega

theorem toInt_sub_one_of_pos (p : Word) (h : 0 < p.toInt) : (p - 1).toInt = p.toInt - 1 := by
  have := BitVec.toInt_lt (x := p)
  rw [BitVec.toInt_sub]
  simp
  rw [Int.bmod_def]
  simp at *
  split <;> omega

theorem toInt_ofNat_of_lt (n : Nat) (h : n < 2147483648) : (BitVec.ofNat 32 n).toInt = n := by
  simp [BitVec.toInt_ofNat', Int.bmod_def]
  split <;> omega

theorem toInt_ofInt_of_mem (i : Int) (h : 0 ≤ i) (h' : i < 2147483648) : (BitVec.ofInt 32 i).toInt = i := by
  rw [BitVec.toInt_ofInt, Int.bmod_def]
  split <;> omega

theorem toInt_eq_zero_iff (p : Word) : p.toInt = 0 ↔ p = 0 := by
  constructor
  · intro h
    apply BitVec.eq_of_toInt_eq
    simpa using h
  · rintro rfl
    rfl

/-! ### The count -/

theorem countMove_linear (dir : CountDir) (pos : Word) (rev : Half) :
    countMove 0 dir pos rev =
      (match dir with
        | .up => pos + 1
        | .down => pos - 1, rev) := by
  cases dir <;> simp [countMove]

namespace State

variable (s : State)

theorem setAxis_setAxis (a : Axis) (u v : AxisUnit) : (s.setAxis a u).setAxis a v = s.setAxis a v := by
  simp [setAxis]

@[simp] theorem setAxis_self (a : Axis) : s.setAxis a (s.axis a) = s := by
  simp [setAxis, axis]

/-! ### Routing -/

theorem handIfHeard_note (r : Report) (p q : Port) :
    (s.handIfHeard r p).note q =
      if q = p ∧ s.hears p r.axis r.kind = true then (s.note q).take r else s.note q := by
  unfold handIfHeard hand
  by_cases h : s.hears p r.axis r.kind = true
  · by_cases hq : q = p
    · subst hq
      simp [h]
    · simp [h, hq, setNote_note]
  · simp [h]

@[simp] theorem handIfHeard_hears (r : Report) (p q : Port) (a : Axis) (k : NoteKind) :
    (s.handIfHeard r p).hears q a k = s.hears q a k := by
  simp [hears]

/-- A routed note is taken by each port that hears it, and by no other (R141). -/
theorem route_note (r : Report) (q : Port) :
    (s.route r).note q = if s.hears q r.axis r.kind = true then (s.note q).take r else s.note q := by
  unfold route
  cases q <;> simp [handIfHeard_note]

theorem handInOrder_note (makers : Makers) (first : Maker) (r : Report) (p q : Port) :
    (s.handInOrder makers first r p).note q =
      if q = p ∧ makers.first p = first ∧ s.hears p r.axis r.kind = true then (s.note q).take r else s.note q := by
  unfold handInOrder
  by_cases h : makers.first p = first <;> simp [h, handIfHeard_note]

@[simp] theorem handInOrder_hears (makers : Makers) (first : Maker) (r : Report) (p q : Port) (a : Axis)
    (k : NoteKind) : (s.handInOrder makers first r p).hears q a k = s.hears q a k := by
  simp [hears]

/-- The note of an event is taken by each port that hears it and whose unit takes the maker `first` first (R186). -/
theorem routeIn_note (makers : Makers) (first : Maker) (r : Report) (q : Port) :
    (s.routeIn makers first (some r)).note q =
      if makers.first q = first ∧ s.hears q r.axis r.kind = true then (s.note q).take r else s.note q := by
  unfold routeIn
  cases q <;> simp [handInOrder_note]

@[simp] theorem routeIn_none (makers : Makers) (first : Maker) : s.routeIn makers first none = s := rfl

/-- When every unit hears the axis unit first, the note goes to all that hear it, and none is left for later. -/
@[simp] theorem routeIn_axisFirst (r : Report) : s.routeIn .axisFirst .axis (some r) = s.route r := by
  simp [routeIn, handInOrder, Makers.first, route]

@[simp] theorem routeIn_axisFirst_table (note : Option Report) : s.routeIn .axisFirst .table note = s := by
  cases note <;> simp [routeIn, handInOrder, Makers.first]

/-- Hearing a kind, by the bit of the kind in the mask. -/
theorem hears_eq_subscribed (p : Port) (a : Axis) (k : NoteKind) (i : Nat) (h : k.maskBit = some i) :
    s.hears p a k = s.subscribed p a i := by
  simp [hears, subscribed, maskHas, h]

/-! ### Contexts -/

@[simp] theorem forContexts_view (a : Axis) (g : Context → Context) (p : Port) :
    (s.forContexts a g).view p =
      { s.view p with contexts := (s.view p).contexts.set a (g (s.view p).contexts[a]) } := by
  cases p <;> rfl

/-! ### Count arrivals -/

/-- The axis's records are all taken by a drain. -/
@[simp] theorem drain_inbox_self (a : Axis) : (s.drain a).inbox a = [] := by
  have h := foldl_keeps takeRecord (·.inbox a) (fun u r => takeRecord_inbox u r a) (s.inbox a) (s.setInbox a [])
  unfold drain
  rw [h]
  simp

theorem drain_inbox_ne (a b : Axis) (h : b ≠ a) : (s.drain a).inbox b = s.inbox b := by
  have h' := foldl_keeps takeRecord (·.inbox b) (fun u r => takeRecord_inbox u r b) (s.inbox a) (s.setInbox a [])
  unfold drain
  rw [h', setInbox_inbox_ne _ _ _ h]

/-- The motion monitor at a count arrival (R13). -/
theorem monitorCount_eq (u : AxisUnit) :
    u.monitorCount = { u with
      motion := if u.motion = .off then .off else .moving
      stallTimer :=
        if u.motion = .off then u.stallTimer else Timer.load (u.config.stallLimit * 1000) } := by
  unfold AxisUnit.monitorCount
  dsimp only
  split <;> rename_i h <;> simp [h, Config.ticksPerMs]
  rw [← h]

/-- When every unit hears the axis unit first, the records wait and the note goes to all that hear it (R186). -/
theorem shareEvent_axisFirst (a : Axis) (note : Option Report) :
    s.shareEvent a .axisFirst false note = s.routeIn .axisFirst .axis note := by simp [shareEvent]

/-- Otherwise the table takes the axis's records between the two groups of units (R51, R186). -/
theorem shareEvent_taken (a : Axis) (makers : Makers) (now : Bool) (note : Option Report)
    (h : now = true ∨ makers ≠ .axisFirst) :
    s.shareEvent a makers now note =
      (((s.inbox a).foldl takeRecord ((s.routeIn makers .axis note).setInbox a [])).routeIn makers .table note) := by
  simp [shareEvent, h, drain]

theorem countMoved_axis_ne (a b : Axis) (dir : CountDir) (h : b ≠ a) : (s.countMoved a dir).axis b = s.axis b := by
  simp [countMoved, setAxis_axis, h]

theorem countMoved_axis_self (a : Axis) (dir : CountDir) :
    (s.countMoved a dir).axis a = { s.axis a with
      position := (countMove (s.axis a).config.modulus dir (s.axis a).position (s.axis a).revolution).1
      revolution := (countMove (s.axis a).config.modulus dir (s.axis a).position (s.axis a).revolution).2 } := by
  simp [countMoved]

theorem countArrival_axis_ne (a b : Axis) (dir : CountDir) (makers : Makers) (h : b ≠ a) :
    (s.countArrival a dir makers).axis b = s.axis b := by
  simp [countArrival, setAxis_axis, h, countMoved_axis_ne _ _ _ _ h]

/-- The axis after a count arrival, whichever maker is heard first (R9, R10, R13). -/
theorem countArrival_axis_self (a : Axis) (dir : CountDir) (makers : Makers) :
    (s.countArrival a dir makers).axis a = { s.axis a with
      position := (countMove (s.axis a).config.modulus dir (s.axis a).position (s.axis a).revolution).1
      revolution := (countMove (s.axis a).config.modulus dir (s.axis a).position (s.axis a).revolution).2
      motion := if (s.axis a).motion = .off then .off else .moving
      stallTimer :=
        if (s.axis a).motion = .off then (s.axis a).stallTimer
        else Timer.load ((s.axis a).config.stallLimit * 1000) } := by
  simp [countArrival, monitorCount_eq, countMoved_axis_self]

/-- The contexts after a count arrival (R132). -/
theorem countArrival_view (a : Axis) (dir : CountDir) (makers : Makers) (p : Port) :
    (s.countArrival a dir makers).view p =
      { s.view p with contexts := (s.view p).contexts.set a ((s.view p).contexts[a].add dir) } := by
  simp [countArrival, countMoved]

/-! ### References -/

theorem referenceMoved_axis_ne (a b : Axis) (reason : Reason) (v : Word) (h : b ≠ a) :
    (s.referenceMoved a reason v).axis b = s.axis b := by
  simp [referenceMoved, setAxis_axis, h]

/-- The axis after a reference (R30). -/
@[simp] theorem referenceMoved_axis_self (a : Axis) (reason : Reason) (v : Word) :
    (s.referenceMoved a reason v).axis a =
      { s.axis a with position := v, revolution := 0, epoch := (s.axis a).epoch + 1, doubt := false } := by
  simp [referenceMoved]

/-- The contexts after a reference (R133). -/
@[simp] theorem referenceMoved_view (a : Axis) (reason : Reason) (v : Word) (p : Port) :
    (s.referenceMoved a reason v).view p =
      { s.view p with contexts := (s.view p).contexts.set a { (s.view p).contexts[a] with rerefSince := true } } := by
  simp [referenceMoved]

/-- The record a reference hands to the table (R30). -/
@[simp] theorem referenceMoved_inbox_self (a : Axis) (reason : Reason) (v : Word) :
    (s.referenceMoved a reason v).inbox a =
      s.inbox a ++ [.reference ⟨a, reason, (s.axis a).position, v, (s.axis a).epoch + 1, s.tick⟩] := by
  simp [referenceMoved, handToTable]

theorem referenceMoved_inbox_ne (a b : Axis) (reason : Reason) (v : Word) (h : b ≠ a) :
    (s.referenceMoved a reason v).inbox b = s.inbox b := by
  simp [referenceMoved, handToTable, setInbox_inbox, h]

/-- The record a count arrival hands to the table (R11). -/
@[simp] theorem countMoved_inbox_self (a : Axis) (dir : CountDir) :
    (s.countMoved a dir).inbox a = s.inbox a ++
      [.arrival ⟨a, dir, ((s.countMoved a dir).axis a).position, (s.axis a).epoch, s.tick⟩] := by
  simp [countMoved, handToTable]

theorem countMoved_inbox_ne (a b : Axis) (dir : CountDir) (h : b ≠ a) :
    (s.countMoved a dir).inbox b = s.inbox b := by
  simp [countMoved, handToTable, setInbox_inbox, h]

end State

end Sys2Proof.Machine
end

