-- ==== Sys2Proof/Laws/Commands.lean ====
section
/-!
SUPPORT. The first step of a command in its cases, and the fields of parameters read back.
-/
namespace Sys2Proof.Machine

/-! ### Parameters -/

@[simp] theorem below_val {m : Nat} (i : Fin m) : below m i.val = some i := by
  simp [below]

theorem below_of_le {m n : Nat} (h : m ≤ n) : below m n = none := by
  simp [below, Nat.not_lt.mpr h]

theorem below_eq_some {m n : Nat} {i : Fin m} : below m n = some i ↔ n = i.val := by
  unfold below
  split
  · simp [Fin.ext_iff]
  · simp
    omega

theorem half_of_bytes (w : Half) : (w.extractLsb' 8 8 ++ w.extractLsb' 0 8 : BitVec 16) = w :=
  (BitVec.extractLsb'_append_extractLsb'_eq_extractLsb' (x := w) (start₁ := 0) (start₂ := 8) (len₁ := 8)
      (len₂ := 8) rfl).trans BitVec.extractLsb'_eq_self

theorem word_of_bytes (w : Word) :
    (w.extractLsb' 24 8 ++ w.extractLsb' 16 8 ++ w.extractLsb' 8 8 ++ w.extractLsb' 0 8 : BitVec 32) = w := by
  have h1 : (w.extractLsb' 24 8 ++ w.extractLsb' 16 8 : BitVec 16) = w.extractLsb' 16 16 :=
    BitVec.extractLsb'_append_extractLsb'_eq_extractLsb' (x := w) (start₁ := 16) (start₂ := 24) (len₁ := 8)
      (len₂ := 8) rfl
  have h2 : (w.extractLsb' 16 16 ++ w.extractLsb' 8 8 : BitVec 24) = w.extractLsb' 8 24 :=
    BitVec.extractLsb'_append_extractLsb'_eq_extractLsb' (x := w) (start₁ := 8) (start₂ := 16) (len₁ := 8)
      (len₂ := 16) rfl
  have h3 : (w.extractLsb' 8 24 ++ w.extractLsb' 0 8 : BitVec 32) = w.extractLsb' 0 32 :=
    BitVec.extractLsb'_append_extractLsb'_eq_extractLsb' (x := w) (start₁ := 0) (start₂ := 8) (len₁ := 8)
      (len₂ := 24) rfl
  exact ((congrArg (fun x : BitVec 16 => (x ++ w.extractLsb' 8 8 ++ w.extractLsb' 0 8 : BitVec 32)) h1).trans
    ((congrArg (fun x : BitVec 24 => (x ++ w.extractLsb' 0 8 : BitVec 32)) h2).trans h3)).trans
      BitVec.extractLsb'_eq_self

/-- An axis number read back from its byte. -/
@[simp] theorem toNat_byteOf_axis (a : Axis) : (byteOf a.val).toNat = a.val := by
  simp [byteOf]
  omega

@[simp] theorem toNat_byteOf_line (l : LineNo) : (byteOf l.val).toNat = l.val := by
  simp [byteOf]
  omega

@[simp] theorem toNat_byteOf_slot (n : SlotNo) : (byteOf n.val).toNat = n.val := by
  simp [byteOf]
  omega

/-! ### The first step of a command -/

namespace State

variable {c : Cmd} {p : Port} {req : Request} {s : State} {body : List Byte → State → Reply}

theorem runCommand_of_notDue (h : s.runnable c p = none) : s.runCommand c p body = s := by
  simp [runCommand, h]

theorem runCommand_of_check {r : Result} (h : s.runnable c p = some req) (hc : s.commonCheck c p req = some r) :
    s.runCommand c p body = s.complete p req r [] := by
  simp [runCommand, h, hc]

/-- A command past the common checks (R174): its own checks and effects. -/
theorem runCommand_of_runs (h : s.Runs c p req) :
    s.runCommand c p body =
      match body req.params s with
      | .refuse r => s.complete p req r []
      | .ok s' data => s'.complete p req .ok data := by
  obtain ⟨h1, h2⟩ := h
  cases hb : body req.params s <;> simp [runCommand, h1, h2, hb]

theorem runCommand_refuse {r : Result} (h : s.Runs c p req) (hb : body req.params s = .refuse r) :
    s.runCommand c p body = s.complete p req r [] := by
  rw [runCommand_of_runs h, hb]

theorem runCommand_ok {s' : State} {data : List Byte} (h : s.Runs c p req) (hb : body req.params s = .ok s' data) :
    s.runCommand c p body = s'.complete p req .ok data := by
  rw [runCommand_of_runs h, hb]

/-- Everything the first step of a command can do: nothing, a refusal, or its effects with an OK. -/
theorem runCommand_cases (c : Cmd) (p : Port) (body : List Byte → State → Reply) (s : State) :
    s.runCommand c p body = s ∨ (∃ req r, s.runCommand c p body = s.complete p req r []) ∨
      ∃ req s' data, s.Runs c p req ∧ body req.params s = .ok s' data ∧
        s.runCommand c p body = s'.complete p req .ok data := by
  unfold runCommand
  split
  · exact .inl rfl
  · rename_i req h
    split
    · exact .inr (.inl ⟨_, _, rfl⟩)
    · rename_i hc
      split
      · exact .inr (.inl ⟨_, _, rfl⟩)
      · rename_i s' data hb
        exact .inr (.inr ⟨req, s', data, ⟨h, hc⟩, hb, rfl⟩)

/-- The common checks passed: the session is OPEN where the command needs one, and the length is right. -/
theorem Runs.length (h : s.Runs c p req) : req.params.length = c.paramLen := by
  have := h.2
  unfold commonCheck at this
  split at this
  · simp at this
  · split at this
    · simp at this
    · rename_i h'
      exact Decidable.not_not.mp h'

theorem Runs.opened (h : s.Runs c p req) (hc : c.needsSession = true) : (s.session p).state = .opened := by
  have := h.2
  unfold commonCheck at this
  split at this
  · simp at this
  · rename_i h'
    cases hs : (s.session p).state with
    | closed => exact absurd ⟨hc, hs⟩ h'
    | opened => rfl

theorem Runs.flight (h : s.Runs c p req) : (s.link p).flight = some ⟨req, .started⟩ ∧ req.command = some c := by
  have := h.1
  unfold runnable at this
  split at this
  · rename_i req' hf
    split at this
    · rename_i hc
      cases this
      exact ⟨hf, hc.1⟩
    · simp at this
  · simp at this

theorem Runs.granted (h : s.Runs c p req) (hc : c.atArbiter = true) : s.grant = some p := by
  have := h.1
  unfold runnable at this
  split at this
  · split at this
    · rename_i h'
      exact h'.2 hc
    · simp at this
  · simp at this

end State

end Sys2Proof.Machine
end

