-- ==== Sys2Proof/Laws/Fire.lean ====
section
/-!
SUPPORT. What placing in a list, arming, giving up, and each step of a fire do to slots, lists, held counts, lines and
notification units.
-/
namespace Sys2Proof.Machine

/-! ### Placing in a sorted list (R50) -/

/-- A placement splits the list: targets up to the slot's before it, greater ones behind it. -/
theorem placeIn_split (key : SlotNo → Int) (n : SlotNo) (x : Int) (l : List SlotNo)
    (h : l.Pairwise (fun m k => key m ≤ key k)) :
    ∃ l₁ l₂, l = l₁ ++ l₂ ∧ placeIn key n x l = l₁ ++ n :: l₂ ∧ (∀ m ∈ l₁, key m ≤ x) ∧ ∀ m ∈ l₂, x < key m := by
  refine ⟨_, _, (List.takeWhile_append_dropWhile).symm, rfl, fun m hm => ?_, ?_⟩
  · simpa using List.mem_takeWhile_imp hm
  · induction l with
    | nil => intro m hm; simp at hm
    | cons y l ih =>
      rw [List.pairwise_cons] at h
      by_cases hy : key y ≤ x
      · simpa [List.dropWhile_cons, hy] using ih h.2
      · intro m hm
        simp only [List.dropWhile_cons, hy, decide_false, Bool.false_eq_true, if_false, List.mem_cons] at hm
        rcases hm with rfl | hm
        · omega
        · have := h.1 m hm
          omega

theorem mem_placeIn (key : SlotNo → Int) (n : SlotNo) (x : Int) (l : List SlotNo) (m : SlotNo) :
    m ∈ placeIn key n x l ↔ m = n ∨ m ∈ l := by
  unfold placeIn
  conv_rhs => rw [← List.takeWhile_append_dropWhile (p := fun m => decide (key m ≤ x)) (l := l)]
  simp only [List.mem_append, List.mem_cons]
  tauto

theorem placeIn_perm (key : SlotNo → Int) (n : SlotNo) (x : Int) (l : List SlotNo) :
    (placeIn key n x l).Perm (n :: l) := by
  unfold placeIn
  conv_rhs => rw [← List.takeWhile_append_dropWhile (p := fun m => decide (key m ≤ x)) (l := l)]
  exact List.perm_middle

/-- Placing keeps a sorted list sorted. -/
theorem placeIn_sorted (key : SlotNo → Int) (n : SlotNo) (l : List SlotNo)
    (h : l.Pairwise (fun m k => key m ≤ key k)) :
    (placeIn key n (key n) l).Pairwise (fun m k => key m ≤ key k) := by
  obtain ⟨l₁, l₂, hl, hp, h₁, h₂⟩ := placeIn_split key n (key n) l h
  rw [hp]
  rw [hl, List.pairwise_append] at h
  rw [List.pairwise_append, List.pairwise_cons]
  refine ⟨h.1, ⟨fun m hm => le_of_lt (h₂ m hm), h.2.1⟩, fun a ha b hb => ?_⟩
  rcases List.mem_cons.mp hb with rfl | hb
  · exact h₁ a ha
  · exact h.2.2 a ha b hb

namespace State

variable (s : State)

/-! ### Targets -/

theorem targetOf_congr {s t : State} {n : SlotNo} (h : t.slot n = s.slot n) : t.targetOf n = s.targetOf n := by
  simp only [targetOf, h]

theorem targetOf_some {s : State} {n : SlotNo} {t : Trigger} (h : s.slot n = some t) : s.targetOf n = t.target.toInt := by
  simp only [targetOf, h]

@[simp] theorem place_targetOf (a : Axis) (n m : SlotNo) : (s.place a n).targetOf m = s.targetOf m :=
  targetOf_congr (place_slot s a n m)

/-! ### Placing and taking out -/

theorem place_armList (a : Axis) (n : SlotNo) (b : Axis) : (s.place a n).armList b =
    if b = a then placeIn s.targetOf n (s.targetOf n) (s.armList a) else s.armList b := by
  simp only [place, setArmList_armList]

theorem unplace_armList (a : Axis) (n : SlotNo) (b : Axis) : (s.unplace a n).armList b =
    if b = a then (s.armList a).filter (· ≠ n) else s.armList b := by
  simp only [unplace, setArmList_armList]

theorem arm_slot (n : SlotNo) (t : Trigger) (m : SlotNo) : (s.arm n t).slot m =
    if m = n then some t.armedAtOrigin else s.slot m := by
  simp only [arm, place_slot, setSlot_slot]

theorem arm_armList (n : SlotNo) (t : Trigger) (b : Axis) : (s.arm n t).armList b =
    if b = t.axis then placeIn (s.arm n t).targetOf n t.origin.toInt (s.armList b) else s.armList b := by
  simp only [arm, place_armList, setSlot_armList]
  split
  · next h =>
    subst h
    rw [targetOf_some (setSlot_slot_self _ _ _)]
    rfl
  · rfl

theorem unarm_slot (n : SlotNo) (t : Trigger) (st : SlotState) (m : SlotNo) : (s.unarm n t st).slot m =
    if m = n then some { t with state := st, target := t.origin } else s.slot m := by
  simp only [unarm, setSlot_slot, unplace_slot]

theorem unarm_armList (n : SlotNo) (t : Trigger) (st : SlotState) (b : Axis) : (s.unarm n t st).armList b =
    if b = t.axis then (s.armList b).filter (· ≠ n) else s.armList b := by
  simp only [unarm, setSlot_armList, unplace_armList]
  split
  · next h => rw [h]
  · rfl

/-! ### Giving up -/

theorem settleGiveUp_slot (n : SlotNo) (t : Trigger) (m : SlotNo) : (s.settleGiveUp n t).slot m =
    if m = n then
      (if (s.note t.owner).owes n = true then some { t with state := .retiring, target := t.origin } else none)
    else s.slot m := by
  unfold settleGiveUp
  split <;> simp only [freeSlot, setHeld_slot, setSlot_slot, *]

theorem settleGiveUp_heldBy (n : SlotNo) (t : Trigger) (q : Port) : (s.settleGiveUp n t).heldBy q =
    if (s.note t.owner).owes n = true then s.heldBy q
    else if q = t.owner then s.heldBy t.owner - 1 else s.heldBy q := by
  unfold settleGiveUp
  split <;> simp only [freeSlot, setHeld_heldBy, setSlot_heldBy, *]

theorem fireClose_slot (n m : SlotNo) : (s.fireClose n).slot m =
    match s.slot n with
    | some t =>
      if t.state = .retiring ∧ m = n then
        (if (s.note t.owner).owes n = true then some { t with state := .retiring, target := t.origin } else none)
      else s.slot m
    | none => s.slot m := by
  unfold fireClose
  cases h : s.slot n with
  | none => rfl
  | some t => by_cases ht : t.state = .retiring <;> simp [ht, settleGiveUp_slot]

theorem fireClose_heldBy (n : SlotNo) (q : Port) : (s.fireClose n).heldBy q =
    match s.slot n with
    | some t =>
      if t.state = .retiring ∧ (s.note t.owner).owes n = false ∧ q = t.owner then s.heldBy q - 1 else s.heldBy q
    | none => s.heldBy q := by
  unfold fireClose
  cases h : s.slot n with
  | none => rfl
  | some t =>
    by_cases ht : t.state = .retiring
    · by_cases ho : (s.note t.owner).owes n = true
      · simp [ht, settleGiveUp_heldBy, ho]
      · by_cases hq : q = t.owner <;> simp_all [settleGiveUp_heldBy]
    · simp [ht]

/-! ### The steps of a fire -/

/-- The record step 3 leaves the firing slot in. -/
theorem fireOwn_slot (n : SlotNo) (t : Trigger) (m : SlotNo) : (s.fireOwn n t).slot m =
    if m = n then
      some (match t.countFire with
        | .repeats pitch rep =>
          { t with target := nextTarget (s.axis t.axis).config.modulus t.target pitch, rep := some rep }
        | .finishes rep =>
          { t with rep := rep, state := if t.retain then .staged else .retiring, target := t.origin })
    else s.slot m := by
  unfold fireOwn
  cases t.countFire with
  | repeats pitch rep => simp only [place_slot, setSlot_slot, unplace_slot]
  | finishes rep => simp only [unarm_slot]

theorem fireOwn_armList (n : SlotNo) (t : Trigger) (b : Axis) : (s.fireOwn n t).armList b =
    if b = t.axis then
      (match t.countFire with
        | .repeats pitch _ => placeIn (s.fireOwn n t).targetOf n
            (nextTarget (s.axis t.axis).config.modulus t.target pitch).toInt ((s.armList b).filter (· ≠ n))
        | .finishes _ => (s.armList b).filter (· ≠ n))
    else s.armList b := by
  unfold fireOwn
  cases t.countFire with
  | repeats pitch rep =>
    simp only [place_armList, setSlot_armList, unplace_armList, if_true]
    split
    · next h =>
      subst h
      rw [targetOf_some (setSlot_slot_self _ _ _)]
      rfl
    · rfl
  | finishes rep => simp only [unarm_armList]

theorem fireChain_slot (n : SlotNo) (t : Trigger) (r : Arrival) (m : SlotNo) : (s.fireChain n t r).slot m =
    match t.successor.bind fun k => (s.chainable t.owner k).map fun u => (k, u) with
    | some (k, u) => if m = k then some u.armedAtOrigin else s.slot m
    | none => s.slot m := by
  unfold fireChain
  cases t.successor with
  | none => rfl
  | some k =>
    cases h : s.chainable t.owner k with
    | none => simp [h]
    | some u => simp [h, arm_slot]

theorem fireChain_armList (n : SlotNo) (t : Trigger) (r : Arrival) (b : Axis) : (s.fireChain n t r).armList b =
    match t.successor.bind fun k => (s.chainable t.owner k).map fun u => (k, u) with
    | some (k, u) => (s.arm k u).armList b
    | none => s.armList b := by
  unfold fireChain
  cases t.successor with
  | none => rfl
  | some k =>
    cases h : s.chainable t.owner k with
    | none => simp [h]
    | some u => simp [h]

theorem fireChain_note (n : SlotNo) (t : Trigger) (r : Arrival) (q : Port) : (s.fireChain n t r).note q =
    match t.successor with
    | some k =>
      if q = t.owner ∧ s.chainable t.owner k = none then (s.note q).take (t.missReport n r k) else s.note q
    | none => s.note q := by
  unfold fireChain
  cases t.successor with
  | none => rfl
  | some k =>
    cases h : s.chainable t.owner k with
    | none => by_cases hq : q = t.owner <;> simp [h, hand, setNote_note, hq]
    | some u => simp [h]

theorem fireNote_note (n : SlotNo) (t : Trigger) (r : Arrival) (q : Port) : (s.fireNote n t r).note q =
    if q = t.owner ∧ t.notify = true then (s.note q).take (t.fireReport n r) else s.note q := by
  unfold fireNote
  by_cases hn : t.notify = true <;> by_cases hq : q = t.owner <;> simp [hn, hq, hand, setNote_note]

theorem fireLine_line (t : Trigger) (l : LineNo) : (s.fireLine t).line l =
    match t.job with
    | some j => if l = j.line then (s.line l).act j.act else s.line l
    | none => s.line l := by
  unfold fireLine
  cases t.job with
  | none => rfl
  | some j => by_cases hl : l = j.line <;> simp [actLine, setLine_line, hl]

/-- A fire of an ARMED slot is its steps and its close. -/
theorem fire_eq {s : State} {n : SlotNo} {t : Trigger} (r : Arrival) (h : s.slot n = some t) (ha : t.state = .armed) :
    s.fire r n = ((((s.fireLine t).fireNote n t r).fireOwn n t).fireChain n t r).fireClose n := by
  simp only [fire, h, ha, if_true]

/-- A slot that is not ARMED does not fire. -/
theorem fire_of_not_armed {s : State} {n : SlotNo} (r : Arrival) (h : ∀ t, s.slot n = some t → t.state ≠ .armed) :
    s.fire r n = s := by
  unfold fire
  cases hs : s.slot n with
  | none => rfl
  | some t => simp [h t hs]

end State

end Sys2Proof.Machine
end

