-- ==== Sys2Proof/Laws/Notes.lean ====
section
/-!
SUPPORT. What a move of owed entries leaves (R119), what the messages it sends do to the table (R44), and what a reference
record does to the slots of its axis (R79).
-/
namespace Sys2Proof.Machine

/-! ### The move (R119) -/

/-- The notes that owed entries become, numbered from `seq`. -/
def movedNotes (seq : Half) (l : List Owed) : List Note :=
  l.zipIdx.map fun (e, i) => ⟨seq + BitVec.ofNat 16 i, e.count, e.report⟩

@[simp] theorem movedNotes_nil (seq : Half) : movedNotes seq [] = [] := rfl

theorem movedNotes_cons (seq : Half) (e : Owed) (l : List Owed) :
    movedNotes seq (e :: l) = ⟨seq, e.count, e.report⟩ :: movedNotes (seq + 1) l := by
  have h : ∀ (x : Owed) (i : Nat), (⟨seq + BitVec.ofNat 16 (0 + 1 + i), x.count, x.report⟩ : Note) =
      ⟨seq + 1 + BitVec.ofNat 16 i, x.count, x.report⟩ := by
    intro x i
    have : seq + BitVec.ofNat 16 (0 + 1 + i) = seq + 1 + BitVec.ofNat 16 i := by
      apply BitVec.eq_of_toNat_eq
      have h1 : (1 : Half).toNat = 1 := rfl
      simp only [BitVec.toNat_add, BitVec.toNat_ofNat, h1]
      omega
    rw [this]
  unfold movedNotes
  rw [List.zipIdx_cons, List.map_cons, List.zipIdx_eq_map_add (i := 0 + 1), List.map_map]
  congr 1
  · simp
  · apply List.map_congr_left
    intro x _
    exact h x.1 x.2

@[simp] theorem movedNotes_length (seq : Half) (l : List Owed) : (movedNotes seq l).length = l.length := by
  simp [movedNotes]

/-- The move takes as many entries as there is room for, from the head of the owed list; a slot is freed when an entry of
it has moved and none is left. -/
theorem moveOwed_spec (o : List Owed) (q : List Note) (seq : Half) (k : Nat)
    (hk : k = min (Config.queueCap - q.length) o.length) :
    (moveOwed q seq o).queue = q ++ movedNotes seq (o.take k) ∧
    (moveOwed q seq o).nextSeq = seq + BitVec.ofNat 16 k ∧
    (moveOwed q seq o).owed = o.drop k ∧
    (∀ n, n ∈ (moveOwed q seq o).freed ↔
      (∃ e ∈ o.take k, e.report.source = .slot n) ∧ ∀ e ∈ o.drop k, e.report.source ≠ .slot n) ∧
    (moveOwed q seq o).freed.Nodup := by
  induction o generalizing q seq k with
  | nil => subst hk; simp [moveOwed]
  | cons e o ih =>
    simp only [moveOwed]
    by_cases hq : q.length < Config.queueCap
    · obtain ⟨k', rfl⟩ : ∃ k', k = k' + 1 := ⟨k - 1, by simp only [List.length_cons] at hk; omega⟩
      obtain ⟨i1, i2, i3, i4, i5⟩ := ih (q ++ [⟨seq, e.count, e.report⟩]) (seq + 1) k' (by
        simp only [List.length_append, List.length_cons, List.length_nil] at hk ⊢; omega)
      have hseq : seq + 1 + BitVec.ofNat 16 k' = seq + BitVec.ofNat 16 (k' + 1) := by
        apply BitVec.eq_of_toNat_eq
        have h1 : (1 : Half).toNat = 1 := rfl
        simp only [BitVec.toNat_add, BitVec.toNat_ofNat, h1]
        omega
      rw [hseq] at i2
      rw [List.append_assoc, List.singleton_append, ← movedNotes_cons] at i1
      simp only [hq, if_true, List.take_succ_cons, List.drop_succ_cons, List.mem_cons, exists_eq_or_imp]
      cases hs : e.report.source with
      | axis a => exact ⟨i1, i2, i3, fun n => by rw [i4 n]; simp, i5⟩
      | slot m =>
        by_cases h : (o.any fun x => decide (x.report.source = .slot m)) = true
        · simp only [h, if_true]
          refine ⟨i1, i2, i3, fun n => ?_, i5⟩
          rw [i4]
          refine and_congr_left fun hn => ⟨Or.inr, ?_⟩
          rintro (hm | hx)
          · cases hm
            obtain ⟨x, hx, hx'⟩ := List.any_eq_true.mp h
            rw [← List.take_append_drop k' o, List.mem_append] at hx
            rcases hx with hx | hx
            · exact ⟨x, hx, by simpa using hx'⟩
            · exact absurd (by simpa using hx') (hn x hx)
          · exact hx
        · simp only [h, Bool.false_eq_true, if_false]
          have hno : ∀ x ∈ o, x.report.source ≠ .slot m := by simpa using h
          refine ⟨i1, i2, i3, fun n => ?_, ?_⟩
          · rw [List.mem_cons, i4]
            constructor
            · rintro (rfl | ⟨hx, hn⟩)
              · exact ⟨Or.inl rfl, fun x hx => hno x (List.mem_of_mem_drop hx)⟩
              · exact ⟨Or.inr hx, hn⟩
            · rintro ⟨hm | hx, hn⟩
              · cases hm; exact Or.inl rfl
              · exact Or.inr ⟨hx, hn⟩
          · rw [List.nodup_cons, i4]
            refine ⟨?_, i5⟩
            rintro ⟨⟨x, hx, hx'⟩, -⟩
            exact hno x (List.mem_of_mem_take hx) hx'
    · have hz : k = 0 := by omega
      subst hz
      simp [hq]

namespace State

/-! ### The messages of a move (R44) -/

theorem lastOwedMoved_slot (s : State) (n m : SlotNo) : (s.lastOwedMoved n).slot m =
    if m = n ∧ (s.slot n).any (fun u => u.state = .retiring) = true then none else s.slot m := by
  unfold lastOwedMoved
  cases h : s.slot n with
  | none => simp
  | some u => by_cases hu : u.state = .retiring <;> by_cases hm : m = n <;> simp [hu, hm, freeSlot, setSlot_slot]

theorem lastOwedMoved_heldBy (s : State) (n : SlotNo) (o : Port) : (s.lastOwedMoved n).heldBy o =
    s.heldBy o - if (s.slot n).any (fun u => u.state = .retiring ∧ u.owner = o) = true then 1 else 0 := by
  unfold lastOwedMoved
  cases h : s.slot n with
  | none => simp
  | some u =>
    by_cases hu : u.state = .retiring
    · by_cases ho : o = u.owner
      · subst ho; simp [hu, freeSlot]
      · have ho' : u.owner ≠ o := fun h => ho h.symm
        simp [hu, freeSlot, setHeld_heldBy, ho, ho']
    · simp [hu]

/-- The messages for a list of slots, each once, free the RETIRING ones among them. -/
theorem foldl_lastOwedMoved (l : List SlotNo) (s : State) (hl : l.Nodup) :
    (∀ m, (l.foldl (fun s n => s.lastOwedMoved n) s).slot m =
      if m ∈ l ∧ (s.slot m).any (fun u => u.state = .retiring) = true then none else s.slot m) ∧
    ∀ o, (l.foldl (fun s n => s.lastOwedMoved n) s).heldBy o =
      s.heldBy o - (l.filter fun n => (s.slot n).any fun u => u.state = .retiring ∧ u.owner = o).length := by
  induction l generalizing s with
  | nil => simp
  | cons n l ih =>
    rw [List.nodup_cons] at hl
    obtain ⟨h1, h2⟩ := ih (s.lastOwedMoved n) hl.2
    have hne : ∀ m ∈ l, (s.lastOwedMoved n).slot m = s.slot m := by
      intro m hm
      rw [lastOwedMoved_slot, if_neg]
      rintro ⟨rfl, -⟩
      exact hl.1 hm
    refine ⟨fun m => ?_, fun o => ?_⟩
    · rw [List.foldl_cons, h1]
      by_cases hm : m = n
      · subst hm; simp [hl.1, lastOwedMoved_slot]
      · simp [lastOwedMoved_slot, hm]
    · rw [List.foldl_cons, h2, lastOwedMoved_heldBy]
      have : (l.filter fun m => ((s.lastOwedMoved n).slot m).any fun u => u.state = .retiring ∧ u.owner = o) =
          l.filter fun m => (s.slot m).any fun u => u.state = .retiring ∧ u.owner = o :=
        List.filter_congr fun m hm => by rw [hne m hm]
      rw [this, List.filter_cons]
      split
      all_goals simp [*]
      all_goals omega

/-! ### A reference record (R79) -/

theorem dropOne_of_drop {s : State} {n : SlotNo} {u : Trigger} (r : Reference) (h : s.slot n = some u)
    (ha : u.state = .armed) (hb : u.bind = .drop) :
    s.dropOne r n = (s.unarm n u .staged).hand u.owner (u.disarmReport n r) := by
  simp [dropOne, h, ha, hb]

theorem dropOne_of_keep {s : State} {n : SlotNo} {u : Trigger} (r : Reference) (h : s.slot n = some u)
    (hb : u.bind = .keep) : s.dropOne r n = s := by
  simp [dropOne, h, hb]

/-- The reports of the DROP slots of a list that port `p` owns, in list order (R80). -/
def disarmReports (s : State) (r : Reference) (p : Port) (l : List SlotNo) : List Report :=
  l.filterMap fun n =>
    match s.slot n with
    | some u => if u.bind = .drop ∧ u.owner = p then some (u.disarmReport n r) else none
    | none => none

/-- The walk over ARMED slots of axis `a`, each once: DROP slots go to STAGED at their origin, out of the list, and report
to their owners in order. -/
theorem foldl_dropOne (r : Reference) (a : Axis) (l : List SlotNo) (s : State) (hl : l.Nodup)
    (ha : ∀ n ∈ l, ∃ u, s.slot n = some u ∧ u.state = .armed ∧ u.axis = a) :
    (∀ n, (l.foldl (dropOne r) s).slot n = (s.slot n).map fun u =>
      if n ∈ l ∧ u.bind = .drop then { u with state := .staged, target := u.origin } else u) ∧
    (∀ b, b ≠ a → (l.foldl (dropOne r) s).armList b = s.armList b) ∧
    (l.foldl (dropOne r) s).armList a =
      (s.armList a).filter (fun n => ¬(n ∈ l ∧ ((s.slot n).any fun u => u.bind = .drop) = true)) ∧
    ∀ p, (l.foldl (dropOne r) s).note p = (s.disarmReports r p l).foldl (fun x y => x.take y) (s.note p) := by
  induction l generalizing s with
  | nil => simp [disarmReports]
  | cons n l ih =>
    rw [List.nodup_cons] at hl
    obtain ⟨u, hu, hs, hx⟩ := ha n (by simp)
    rw [List.foldl_cons]
    cases hb : u.bind with
    | keep =>
      rw [dropOne_of_keep r hu hb]
      obtain ⟨i1, i2, i3, i4⟩ := ih s hl.2 fun m hm => ha m (by simp [hm])
      refine ⟨fun m => ?_, i2, ?_, fun p => ?_⟩
      · rw [i1]
        by_cases hm : m = n
        · subst hm; simp [hu, hb]
        · simp [hm]
      · rw [i3]
        refine List.filter_congr fun m _ => ?_
        by_cases hm : m = n
        · subst hm; simp [hu, hb]
        · simp [hm]
      · rw [i4]
        simp [disarmReports, hu, hb]
    | drop =>
      rw [dropOne_of_drop r hu hs hb]
      have hne : ∀ m, m ≠ n → ((s.unarm n u .staged).hand u.owner (u.disarmReport n r)).slot m = s.slot m := by
        intro m hm
        simp [unarm_slot, hm]
      obtain ⟨i1, i2, i3, i4⟩ := ih ((s.unarm n u .staged).hand u.owner (u.disarmReport n r)) hl.2 (by
        intro m hm
        rw [hne m (by rintro rfl; exact hl.1 hm)]
        exact ha m (by simp [hm]))
      refine ⟨fun m => ?_, fun b hb' => ?_, ?_, fun p => ?_⟩
      · rw [i1]
        by_cases hm : m = n
        · subst hm; simp [hu, hb, unarm_slot, hl.1]
        · rw [hne m hm]; simp [hm]
      · rw [i2 b hb']
        simp [unarm_armList, hx, hb']
      · rw [i3]
        simp only [hand_armList, unarm_armList, hx, if_true, List.filter_filter]
        refine List.filter_congr fun m _ => ?_
        by_cases hm : m = n
        · subst hm; simp [hu, hb]
        · rw [hne m hm]; simp [hm]
      · rw [i4]
        have hc : disarmReports ((s.unarm n u .staged).hand u.owner (u.disarmReport n r)) r p l =
            disarmReports s r p l :=
          List.filterMap_congr fun m hm => by rw [hne m (by rintro rfl; exact hl.1 hm)]
        rw [hc]
        by_cases hp : u.owner = p
        · subst hp; simp [disarmReports, hu, hb, hand]
        · have hp' : p ≠ u.owner := fun h => hp h.symm
          simp [disarmReports, hu, hb, hand, setNote_note, hp, hp']

end State

end Sys2Proof.Machine
end

