-- ==== Sys2Proof/WellFormed.lean ====
section
/-!
DEFINITION. Well-formed commands. Ports, axes, lines and inputs are in range by their types; what is left to check is
that the bits of a transaction are of the kind the command names (R167).
-/
namespace Sys2Proof

/-- The verdict a command ends a transaction with, and the bits it was judged on. -/
def Instr.transaction? : Instr → Option (Machine.Verdict × List Bool)
  | .poll _ bits => some (.poll, bits)
  | .resync _ bits => some (.resync, bits)
  | .requestFrame _ bits => some (.request, bits)
  | _ => none

/-- POLL, RESYNC and REQUEST_FRAME carry bits that R167 judges so; every other command is well formed. -/
def Instr.wellFormed (i : Instr) : Bool :=
  match i.transaction? with
  | some (v, bits) => Machine.verdictOf (Machine.wholeBytes bits) = v
  | none => true

end Sys2Proof
end

