-- ==== Sys2Proof/Tests/Slice0.lean ====
section
/-!
SUPPORT. The model's own tests: the well-formedness check on ill-formed commands, one or two steps of every command on a
small state, and for every obligation with hypotheses a concrete state that meets them, clause by clause.
-/
namespace Sys2Proof.Tests

open Sys2Proof.Machine

set_option maxRecDepth 8000

/-! ### States and helpers -/

/-- The state after a command; the one it ran on if it had stopped. -/
def after (i : Instr) (s : State) : State :=
  match exec i s with
  | .next t => t
  | .fault _ => s
  | .refused _ => s

/-- The part with a session of port `p` OPEN, its intake ON and `quota` reserved. -/
def opened (p : Port) (quota : Nat) (s : State) : State :=
  ({ s with unreserved := s.unreserved - quota : State }.setSession p
    { Session.reset with state := .opened, number := 1, quota := quota, fresh := false }).setNote p
      { s.note p with intake := true }

/-- Sessions of A and B are OPEN, C is CLOSED; A holds axis right 0, line 2 and slot quota 4, B line 5 and quota 2. -/
def base : State :=
  ((((opened .a 4 (opened .b 2 State.reset)).setAxisRight 0 (some .a)).setLine 2
    ⟨some .a, .activeHigh, .low, .inactive, .stopped⟩).setLine 5 ⟨some .b, .activeLow, .low, .inactive, .stopped⟩)

/-- The request of command number `n` with parameters `ps`, TAG 7. -/
def request (n : Nat) (ps : List Byte) : Request := ⟨7, byteOf n, ps⟩

/-- Port `p`'s command in flight is that request, at its first step. -/
def asking (p : Port) (n : Nat) (ps : List Byte) (s : State) : State :=
  let req := request n ps
  let t := s.setLink p { s.link p with slot := .pending, heldRequest := some req, flight := some ⟨req, .started⟩ }
  if (Cmd.ofNumber n).any Cmd.atArbiter then { t with grant := some p } else t

/-- Result and data of the held response of port `p`. -/
def answer (p : Port) (s : State) : Option (Result × List Byte) :=
  (s.link p).heldResponse.map fun r => (r.result, r.data)

/-- The bits of a request frame with TAG 1. -/
def frame (n : Nat) (ps : List Byte) : List Bool :=
  let body := [byteOf ps.length, 1, byteOf n] ++ ps
  bitsOfBytes (0x5A :: (body ++ [crc8 body]))

/-- A slot of port `p` on axis 0, STAGED, UP, that does nothing but retire its fire. -/
def plain (p : Port) (origin : Word) : Trigger :=
  { state := .staged, owner := p, tag := 0x0102, axis := 0, origin := origin, target := origin, dir := .up, job := none,
    rep := none, successor := none, retain := false, bind := .keep, notify := false }

/-- Slot `n` holds `t`; if `t` is ARMED it is put at the tail of its list. -/
def withSlot (n : SlotNo) (t : Trigger) (s : State) : State :=
  let s := (s.setSlot n (some t)).setHeld t.owner (s.heldBy t.owner + 1)
  if t.state = .armed then s.setArmList t.axis (s.armList t.axis ++ [n]) else s

/-- A report of slot 0. -/
def fired : Report := ⟨.fire, .slot 0, some 9, 0, 5, 6, 0, .none⟩

/-- `k` notes of slot 0. -/
def notesOf (k : Nat) : List Note := (List.range k).map fun i => ⟨BitVec.ofNat 16 i, 1, fired⟩

/-- A full queue of 16 notes with an owed FIRE of slot 0, count 6. -/
def fullUnit : NoteUnit := ⟨true, notesOf 16, 16, [⟨6, fired⟩], .low⟩

/-- A settled filter. -/
def settled (level : Bool) (run : Nat) : Filter := ⟨some level, run, level, 0, false⟩

/-- Axis 0 with settled phase filters of these levels and run lengths. -/
def phases (mode : DecodeMode) (pha phb : Filter) (s : State) : State :=
  let u := s.axis 0
  s.setAxis 0 { u with config := { u.config with mode := mode }, inputs := { u.inputs with pha := pha, phb := phb } }

/-- Axis 0 with settled reference filters and a reference state. -/
def marks (r : RefState) (home idx : Filter) (s : State) : State :=
  let u := s.axis 0
  s.setAxis 0 { u with refState := r, inputs := { u.inputs with home := home, idx := idx } }

/-! ### Well-formed commands -/

theorem test_poll_of_a_request_frame_is_ill_formed : (Instr.poll .a (frame 0 [])).wellFormed = false := by decide

theorem test_poll_of_a_resync_is_ill_formed :
    (Instr.poll .a (List.replicate 64 true)).wellFormed = false := by decide

theorem test_resync_of_seven_bytes_is_ill_formed :
    (Instr.resync .b (List.replicate 63 true)).wellFormed = false := by decide

theorem test_request_frame_without_sync_is_ill_formed :
    (Instr.requestFrame .c [true, false, true]).wellFormed = false := by decide

theorem test_transactions_of_their_kind_are_well_formed :
    (Instr.poll .a []).wellFormed = true ∧ (Instr.resync .a (List.replicate 64 true)).wellFormed = true ∧
      (Instr.requestFrame .a (frame 0 [])).wellFormed = true ∧ Instr.tick.wellFormed = true := by decide

/-! ### Reset and time -/

theorem test_deviceReset : (after (.deviceReset .pin) base).inReset = true ∧
    (after (.deviceReset .pin) base).resetCause = .pin ∧ (after (.deviceReset .pin) base).unreserved = 96 ∧
    ((after (.deviceReset .pin) base).line 2).pin = none := by decide

theorem test_deviceReset_joins_causes :
    (after (.deviceReset .supplyLow) (after (.deviceReset .pin) base)).resetCause = .supplyLow ∧
    (after (.deviceReset .pin) (after (.deviceReset .powerOn) base)).resetCause = .powerOn := by decide

theorem test_resetRelease : (after .resetRelease (after (.deviceReset .pin) base)).inReset = false := by decide

theorem test_tick : (after .tick { base with periods := 16, tick := 0xFFFFFFFF }).tick = 0 ∧
    (after .tick { base with periods := 15 }) = { base with periods := 15 } := by decide

theorem test_tick_moves_timers :
    ((after .tick { base.setLine 2 { base.line 2 with timer := .running 2 } with periods := 16 }).line 2).timer =
      .running 1 ∧
    ((after .tick { base.setLine 2 { base.line 2 with timer := .running 1 } with periods := 16 }).line 2).timer =
      .due := by decide

theorem test_sample :
    ((after (.sample (Vector.replicate 4 ⟨true, false, false, false⟩))
      (phases .quadX4 (settled false 3) (settled false 0) base)).axis 0).inputs.pha.run = 4 ∧
    ((after (.sample (Vector.replicate 4 ⟨true, false, false, false⟩)) base).axis 1).inputs.pha.streak = 1 := by decide

theorem test_inputSettling :
    ((after (.inputSettling 0 .pha) (phases .quadX4 ⟨none, 0, true, 4, false⟩ (settled false 0) base)).axis
      0).inputs.pha = ⟨some true, 0, true, 0, true⟩ := by decide

/-! ### Axes -/

/-- Section 1.2: from 00, PHA rising is up. -/
theorem test_acceptedChange_up :
    ((after (.acceptedChange 0 .phases .axisFirst) (phases .quadX4 (settled false 4) (settled false 0) base)).axis
      0).position = 1 := by decide

theorem test_acceptedChange_phase_skip :
    ((after (.acceptedChange 0 .phases .axisFirst) (phases .quadX4 (settled false 4) (settled true 4) base)).axis
      0).doubt = true := by decide

/-- R186: one arrival, master A's unit hears the monitor first, master B's the table. -/
theorem test_acceptedChange_in_each_ports_own_order :
    let sub (p : Port) (s : State) : State := s.setView p { s.view p with masks := Vector.replicate 4 1 }
    let slots := withSlot 1 { plain .b 1 with state := .armed, notify := true }
      (withSlot 0 { plain .a 1 with state := .armed, notify := true } (sub .a (sub .b base)))
    let t := after (.acceptedChange 0 .phases ⟨.axis, .table, .axis⟩) (phases .quadX4 (settled false 4) (settled false 0)
      (slots.setAxis 0 { slots.axis 0 with motion := .still }))
    (t.note .a).queue.map (·.report.kind) = [.motion, .fire] ∧
      (t.note .b).queue.map (·.report.kind) = [.fire, .motion] := by decide

theorem test_stallTimerExpiry :
    ((after (.stallTimerExpiry 0) (base.setAxis 0 { base.axis 0 with motion := .moving, stallTimer := .due })).axis
      0).motion = .still := by decide

/-- The configuration of section 11.1: QUAD_X4, F 20, modulus 1,000, stall limit 20 ms, falling edges. -/
def lineParams : List Byte := [0, 0, 0, 20, 0xE8, 3, 0, 0, 20, 0, 0, 0, 0, 0, 1, 1]

/-- Section 11.3, step 2: the modulus change is a CONFIG reference, epoch 1, and the monitor goes to STILL. -/
theorem test_axisSet :
    let t := after (.axisSet .a) (asking .a 0x10 lineParams base)
    answer .a t = some (.ok, []) ∧ (t.axis 0).config.modulus = 1000 ∧ (t.axis 0).epoch = 1 ∧ t.epochOf 0 = 1 ∧
      (t.axis 0).motion = .still ∧ (t.view .b).contexts[0].rerefSince = true := by decide

theorem test_axisSet_refuses_modulus_one :
    answer .a (after (.axisSet .a) (asking .a 0x10 [0, 0, 0, 20, 1, 0, 0, 0, 0, 0, 0, 0, 0, 0, 0, 0] base)) =
      some (.range, []) := by decide

theorem test_axisClearDoubt :
    let t := after (.axisClearDoubt .a)
      (asking .a 0x11 [0] (base.setAxis 0 { base.axis 0 with doubt := true }))
    answer .a t = some (.ok, []) ∧ (t.axis 0).doubt = false := by decide

theorem test_axisRead : (answer .b (after (.axisRead .b) (asking .b 0x12 [0] base))).map (·.2) =
    some [0, 0, 4, 0, 0, 0, 0, 0, 0, 0, 0, 0, 0, 0, 0, 0, 0, 0, 0, 0, 0, 0, 0, 0, 0, 0, 0, 1] := by decide

theorem test_axisRefarm :
    let t := after (.axisRefarm .a) (asking .a 0x13 [0, 2] base)
    answer .a t = some (.ok, []) ∧ (t.axis 0).refState = .waitHome true := by decide

theorem test_axisPreset :
    let t := after (.axisPreset .a .tableFirst)
      (asking .a 0x14 [0, 0xFE, 0xFF, 0xFF, 0xFF] (base.setAxis 0 { base.axis 0 with position := 812 }))
    answer .a t = some (.ok, [0x2C, 3, 0, 0, 1, 0]) ∧ (t.axis 0).position.toInt = -2 ∧ t.epochOf 0 = 1 := by decide

/-! ### The trigger table -/

/-- Section 11.4: the strobe, slot 0 of master B, PULSE line 0 every 500 counts. Here on line 5. -/
def strobeParams : List Byte := [0, 100, 0, 250, 0, 0, 0, 0, 4, 5, 100, 0, 0xF4, 1, 0, 0, 0, 0, 0xFF, 0, 0, 1]

/-- The slot those parameters describe. -/
def strobe : Trigger :=
  { plain .b 250 with tag := 100, job := some ⟨5, .pulse 100⟩, rep := some ⟨500, 0, 0⟩, notify := true }

theorem test_trigDefine :
    let t := after (.trigDefine .b) (asking .b 0x20 strobeParams base)
    answer .b t = some (.ok, [0, 1]) ∧ t.slot 0 = some strobe ∧ t.heldBy .b = 1 := by decide

theorem test_trigDefine_without_the_line :
    answer .a (after (.trigDefine .a) (asking .a 0x20 strobeParams base)) = some (.notClaimed, []) := by decide

theorem test_trigArm :
    let t := after (.trigArm .b) (asking .b 0x21 [0, 1, 0, 0] (withSlot 0 strobe base))
    answer .b t = some (.ok, [250, 0, 0, 0, 0, 0]) ∧ t.armList 0 = [0] := by decide

theorem test_trigArm_refuses_a_wrong_epoch :
    answer .b (after (.trigArm .b) (asking .b 0x21 [0, 1, 1, 0] (withSlot 0 strobe base))) = some (.epoch, []) := by
  decide

/-- The strobe ARMED with its target moved on to 750. -/
def armedStrobe : State := withSlot 0 { strobe with state := .armed, target := 750 } base

theorem test_trigDisarm :
    let t := after (.trigDisarm .b) (asking .b 0x22 [0] armedStrobe)
    answer .b t = some (.ok, []) ∧ t.slot 0 = some strobe ∧ t.armList 0 = [] := by decide

/-- Section 11.7, step 2: an owed entry names the slot, so it is RETIRING. -/
theorem test_trigDelete_retires :
    let t := after (.trigDelete .b) (asking .b 0x23 [0] (armedStrobe.setNote .b fullUnit))
    answer .b t = some (.ok, [3, 1]) ∧ t.slot 0 = some { strobe with state := .retiring } ∧ t.armList 0 = [] := by
  decide

theorem test_trigDelete_frees :
    let t := after (.trigDelete .b) (asking .b 0x23 [0] armedStrobe)
    answer .b t = some (.ok, [0, 0]) ∧ t.slot 0 = none ∧ t.heldBy .b = 0 := by decide

theorem test_trigRead : answer .b (after (.trigRead .b) (asking .b 0x24 [0] armedStrobe)) =
    some (.ok, [2, 100, 0, 0, 250, 0, 0, 0, 0xEE, 2, 0, 0, 0, 4, 5, 100, 0, 0xF4, 1, 0, 0, 0, 0, 0, 0, 0xFF, 0, 0, 1]) := by
  decide

theorem test_trigList : answer .a (after (.trigList .a) (asking .a 0x25 [0, 0] armedStrobe)) =
    some (.ok, [1, 1, 0, 2, 0xEE, 2, 0, 0, 0]) := by decide

/-- The record of an up arrival at position `x` of axis 0. -/
def arrivalAt (x : Word) : Arrival := ⟨0, .up, x, 0, 77⟩

/-- Section 11.4: the fire at 750 pulses the line, reports, and the slot waits for its next target. -/
theorem test_matchCountArrival :
    let t := after (.matchCountArrival 0) (armedStrobe.setInbox 0 [.arrival (arrivalAt 750)])
    (t.slot 0).map (·.target) = some 1250 ∧ (t.line 5).state = .active ∧ (t.note .b).queue.length = 1 ∧
      t.armList 0 = [0] ∧ t.inbox 0 = [] := by decide

/-- Section 11.5: slot 3 of master C chains to itself and waits for the next flight. -/
theorem test_matchCountArrival_chains_to_itself :
    let t := after (.matchCountArrival 0) ((withSlot 3 { plain .a 950 with
      state := .armed, retain := true, successor := some 3 } base).setInbox 0 [.arrival (arrivalAt 950)])
    (t.slot 3).map (·.state) = some .armed ∧ t.armList 0 = [3] := by decide

/-- Section 11.6, step 3: a DROP slot goes to STAGED with a REREF_DISARM, the table epoch is set. -/
theorem test_referenceRecord :
    let t := after (.referenceRecord 0) ((withSlot 1 { plain .a 900 with state := .armed, bind := .drop } base).setInbox 0
      [.reference ⟨0, .index, 812, 0, 2, 77⟩])
    (t.slot 1).map (·.state) = some .staged ∧ t.armList 0 = [] ∧ t.epochOf 0 = 2 ∧
      (t.note .a).queue.map (·.report.kind) = [.rerefDisarm] := by decide

/-! ### Output lines -/

theorem test_pulseExpiry :
    ((after (.pulseExpiry 2) (base.setLine 2 { base.line 2 with state := .active, timer := .due })).line 2) =
      base.line 2 := by decide

theorem test_lineClaim :
    let t := after (.lineClaim .a) (asking .a 0x30 [0, 1, 2] base)
    answer .a t = some (.ok, []) ∧ (t.line 0).owner = some .a ∧ (t.line 0).pin = some .high := by decide

theorem test_lineRelease :
    let t := after (.lineRelease .a) (asking .a 0x31 [2] base)
    answer .a t = some (.ok, []) ∧ (t.line 2).owner = none ∧ (t.line 2).pin = some .low := by decide

theorem test_lineRelease_refused_while_a_slot_names_it :
    answer .b (after (.lineRelease .b) (asking .b 0x31 [5] armedStrobe)) = some (.inUse, []) := by decide

theorem test_lineDrive :
    let t := after (.lineDrive .a) (asking .a 0x32 [2, 4, 0x10, 0x27] base)
    answer .a t = some (.ok, [1, 0x10, 0x27]) ∧ (t.line 2).timer = .running 10000 ∧ (t.line 2).pin = some .high := by
  decide

theorem test_lineRead : answer .b (after (.lineRead .b) (asking .b 0x33 [2] base)) = some (.ok, [1, 0, 0, 0, 0, 0]) := by
  decide

/-! ### Notifications, snapshots, subscriptions -/

theorem test_noteRead :
    answer .a (after (.noteRead .a) (asking .a 0x40 [1] (base.setNote .a ⟨true, notesOf 2, 2, [], .low⟩))) =
      some (.ok, [0, 0, 0, 1, 0, 0, 5, 0, 0, 0, 6, 0, 0, 0, 0, 0, 9, 0, 0xFF, 0]) := by decide

/-- Section 11.7, step 4: four notes go, the owed entry moves, its RETIRING slot is FREE. -/
theorem test_noteAck :
    let t := after (.noteAck .b) (asking .b 0x41 [3, 0] ((withSlot 0 { strobe with state := .retiring } base).setNote .b
      fullUnit))
    answer .b t = some (.ok, [4, 1, 13, 0, 0]) ∧ t.slot 0 = none ∧ t.heldBy .b = 0 ∧ (t.note .b).nextSeq = 17 ∧
      (t.note .b).ntf = .low := by decide

/-- Section 10.7, R185: mask 0x5 with REREF_SINCE and DOUBT of axis 2 gives flag word 0x0A00. -/
theorem test_snap :
    let u := (base.setAxis 2 { base.axis 2 with doubt := true }).forContexts 2 fun c => { c with rerefSince := true }
    let t := after (.snap .a) (asking .a 0x50 [5] u)
    (answer .a (after (.snapAxisStep .a) (after (.snapAxisStep .a) t))).map (fun r => (r.1, r.2.length, r.2.take 2)) =
      some (.ok, 34, [0, 0x0A]) := by decide

theorem test_subscribe :
    let t := after (.subscribe .a) (asking .a 0x51 [0, 7] base)
    answer .a t = some (.ok, [0]) ∧ (t.view .a).masks[0] = 7 := by decide

/-! ### Sessions -/

/-- Section 11.3, step 2: OPEN with K 50 and quota 4. -/
theorem test_openSession :
    let t := after (.openSession .a) (asking .a 1 [50, 0, 4] State.reset)
    answer .a t = some (.ok, [1, 0, 1, 0, 0]) ∧ t.unreserved = 92 ∧ (t.session .a).timer = .running 50000 ∧
      (t.note .a).intake = true := by decide

theorem test_closeSession :
    ((after (.closeSession .a) (asking .a 2 [] base)).session .a).purge =
      some ⟨false, false, false, false, false, false⟩ := by decide

theorem test_keepaliveExpiry :
    ((after (.keepaliveExpiry .a) (base.setSession .a { base.session .a with keepalive := 1, timer := .due })).session
      .a).purge = some ⟨true, false, false, false, false, false⟩ := by decide

/-- Port `p` is ending. -/
def ending (p : Port) (g : Purge) (s : State) : State := s.setSession p { s.session p with purge := some g }

theorem test_tablePurge :
    let t := after (.tablePurge .b) (ending .b ⟨true, false, false, false, false, false⟩ armedStrobe)
    t.slot 0 = none ∧ t.armList 0 = [] ∧ t.heldBy .b = 0 := by decide

theorem test_linePurge :
    ((after (.linePurge .a) (ending .a ⟨true, true, false, false, false, false⟩ base)).line 2).owner = none ∧
    ((after (.linePurge .a) (ending .a ⟨true, false, false, false, false, false⟩ base)).line 2).owner = some .a := by
  decide

theorem test_notePurge :
    ((after (.notePurge .b) (ending .b ⟨true, false, false, false, false, false⟩ (base.setNote .b fullUnit))).note .b) =
      NoteUnit.reset := by decide

theorem test_viewPurge :
    ((after (.viewPurge .a) (ending .a ⟨true, false, false, false, false, false⟩
      (base.setView .a { base.view .a with masks := Vector.replicate 4 7 }))).view .a).masks[0] = 0 := by decide

theorem test_axisRightsPurge :
    (after (.axisRightsPurge .a) (ending .a ⟨true, false, false, false, false, false⟩ base)).axisRight 0 = none := by
  decide

theorem test_purgeClose :
    let t := after (.purgeClose .a) (ending .a ⟨true, true, true, true, true, true⟩ base)
    (t.session .a).state = .closed ∧ (t.session .a).lost = true ∧ (t.session .a).number = 1 ∧ t.unreserved = 94 := by
  decide

/-- Section 11.3, end: unreserved quota and line owners as every port sees them. -/
theorem test_status : answer .c (after (.status .c) (asking .c 3 [] base)) =
    some (.ok, [1, 1, 0, 1, 0, 1, 0, 0, 0, 90, 96, 0, 0, 1, 0, 0, 2, 0, 0, 1, 0, 0, 0, 0]) := by decide

theorem test_axisClaim :
    let t := after (.axisClaim .b) (asking .b 4 [3] base)
    answer .b t = some (.ok, []) ∧ t.axisRight 3 = some .b ∧
      answer .b (after (.axisClaim .b) (asking .b 4 [0] base)) = some (.owned, []) := by decide

theorem test_axisRelease :
    let t := after (.axisRelease .a) (asking .a 5 [0] base)
    answer .a t = some (.ok, []) ∧ t.axisRight 0 = none := by decide

/-! ### Port links -/

/-- Section 11.3, step 1: STATE 0x02, SLOT EMPTY, REJECT NONE. -/
theorem test_transactionStart :
    let t := after (.transactionStart .a) State.reset
    (t.link .a).outFrame.take 9 = [0xA6, 0x02, 0, 0, 0, 0, 0, 0, 0] ∧ (t.link .a).outFrame.length = 10 ∧
      t.dataOut .a 9 = .shifts 0x26 ∧ t.dataOut .a 10 = .shifts 0xFF := by decide

theorem test_poll :
    after (.poll .a []) (after (.transactionStart .a) base) = base := by decide

theorem test_resync :
    ((after (.resync .a (List.replicate 64 true)) (after (.transactionStart .a) (asking .a 0 [] base))).link .a).discard =
      true := by decide

/-- The NOP frame 0x5A 0x00 0x01 0x00 0x15 of section 10.3 is accepted. -/
theorem test_requestFrame :
    let t := after (.requestFrame .a (bitsOfBytes [0x5A, 0x00, 0x01, 0x00, 0x15])) (after (.transactionStart .a) base)
    (t.link .a).slot = .pending ∧ (t.link .a).flight = some ⟨⟨1, 0, []⟩, .started⟩ ∧
      answer .a (after (.nop .a) t) = some (.ok, []) := by decide

theorem test_requestFrame_with_a_wrong_crc :
    ((after (.requestFrame .a (bitsOfBytes [0x5A, 0x00, 0x01, 0x00, 0x16])) (after (.transactionStart .a) base)).link
      .a).reject = .crc := by decide

theorem test_nop : answer .c (after (.nop .c) (asking .c 0 [] base)) = some (.ok, []) := by decide

theorem test_nop_with_a_parameter : answer .c (after (.nop .c) (asking .c 0 [1] base)) = some (.badArg, []) := by
  decide

/-- The state after one step; the one it started from if it had stopped. -/
def stepped (s : State) : State :=
  match step s with
  | .next t => t
  | .fault _ => s
  | .refused _ => s

theorem test_step : (stepped { base with pending := [.transactionStart .a, .tick] }).pending = [.tick] ∧
    ((stepped { base with pending := [.transactionStart .a, .tick] }).link .a).selectLow = true ∧
    stepped base = base := by decide

/-! ### Hypotheses that can be met

One theorem for each obligation with hypotheses, with a state for each of its clauses, at the ends of the ranges. -/

/-- `asking p n ps s` runs the command `c`: its first step is due and the common checks pass. -/
def runs (c : Cmd) (p : Port) (n : Nat) (s : State) (ps : List Byte) : Bool :=
  (asking p n ps s).runnable c p = some (request n ps) ∧ (asking p n ps s).commonCheck c p (request n ps) = none

theorem runs_iff (c : Cmd) (p : Port) (n : Nat) (s : State) (ps : List Byte) :
    runs c p n s ps = true ↔ (asking p n ps s).Runs c p (request n ps) := by simp [runs, State.Runs]

/-- Asking changes the link of the port and the grant alone. -/
theorem asking_same (p : Port) (n : Nat) (ps : List Byte) (s : State) : SameBlocks s (asking p n ps s) := by
  unfold asking; dsimp only; split <;> exact ⟨⟨rfl, rfl, rfl, rfl⟩, ⟨rfl, rfl⟩, ⟨rfl, rfl, rfl, rfl, rfl⟩, rfl, rfl, rfl,
    ⟨rfl, rfl⟩, rfl⟩

theorem witness_StepRunsFrontCommand :
    ({ base with pending := [.resetRelease, .tick] } : State).pending = .resetRelease :: [.tick] ∧ base.pending = [] := by
  decide

theorem witness_EveryCommandAnswers : base.runnable .nop .a = none := by decide

theorem witness_DeviceResetOfSessionsAndLinks :
    verdictOf (wholeBytes (frame 0 [])) = .request ∧ verdictOf (wholeBytes (List.replicate 64 true)) = .resync ∧
      verdictOf (wholeBytes (List.replicate 63 true)) = .poll ∧
      ((after (.deviceReset .pin) (after (.transactionStart .a) base)).link .a).selectLow = true := by decide

theorem witness_ResetCauseFollowsSources :
    base.inReset = false ∧ exec .resetRelease base = .next { base with inReset := false } ∧
      ∀ source, Instr.resetRelease ≠ .deviceReset source := by
  exact ⟨rfl, rfl, fun _ h => by cases h⟩

/-- The 16th period has come and nothing of the last tick is left; and a part under reset. -/
theorem witness_TickMovesCounterAndTimers :
    let s : State := { base with periods := 16 }
    s.inReset = false ∧ 16 ≤ s.periods ∧ (∀ a, (s.axis a).stallTimer ≠ .due) ∧ (∀ l, (s.line l).timer ≠ .due) ∧
      s.keepaliveDue .a = false ∧ s.keepaliveDue .b = false ∧ s.keepaliveDue .c = false ∧
      (after (.deviceReset .pin) s).inReset = true := by decide

theorem witness_FiltersMeetSamples :
    let s := phases .quadX4 ⟨none, 0, true, 4, false⟩ (settled false 4) base
    let settling := phases .quadX4 ⟨some true, 0, true, 0, true⟩ (settled false 4) base
    (base.inReset = false ∧ base.periods ≤ 16 ∧ ∀ a, (base.axis a).outstanding = false) ∧
      (({ base with periods := 16 } : State).periods ≤ 16) ∧
      (((s.axis 0).inputs.get .pha).level = none ∧ (s.axis 0).config.filterLen ≤ ((s.axis 0).inputs.get .pha).streak) ∧
      ((s.axis 0).pairDue .phases = true ∧ (s.axis 0).inputs.pha.level = none) ∧
      ((settling.axis 0).pairDue .phases = true ∧ (settling.axis 0).inputs.pha.settledNow = true) := by decide

/-- Every pair of levels, one phase, the other or none changing, the run length at F. -/
theorem witness_QuadratureCountsAlongTheSequence : ∀ x y i j : Bool,
    let s := phases .quadX4 (settled x (if i then 4 else 0)) (settled y (if j then 4 else 0)) base
    (s.axis 0).config.mode = .quadX4 ∧ (s.axis 0).inputs.pha.level = some x ∧ (s.axis 0).inputs.phb.level = some y ∧
      (s.axis 0).inputs.pha.settledNow = false ∧ (s.axis 0).inputs.phb.settledNow = false ∧
      (s.axis 0).inputs.pha.changeDue (s.axis 0).config.filterLen = i ∧
      (s.axis 0).inputs.phb.changeDue (s.axis 0).config.filterLen = j := by decide

theorem witness_PhaseSkipMarksDoubt : ∀ m ∈ [DecodeMode.quadX4, .stepDir],
    let s := phases m (settled true 4) (settled false 4) base
    (s.axis 0).inputs.pha.level = some true ∧ (s.axis 0).inputs.phb.level = some false ∧
      (s.axis 0).inputs.pha.settledNow = false ∧ (s.axis 0).inputs.phb.settledNow = false ∧
      (s.axis 0).inputs.pha.changeDue (s.axis 0).config.filterLen = true ∧
      (s.axis 0).inputs.phb.changeDue (s.axis 0).config.filterLen = true ∧ (s.axis 0).config.mode = m := by decide

theorem witness_StepDirCountsRisingSteps : ∀ x y i j : Bool,
    let s := phases .stepDir (settled x (if i then 4 else 0)) (settled y (if j then 4 else 0)) base
    (s.axis 0).config.mode = .stepDir ∧ (s.axis 0).inputs.pha.level = some x ∧ (s.axis 0).inputs.phb.level = some y ∧
      (s.axis 0).inputs.pha.settledNow = false ∧ (s.axis 0).inputs.phb.settledNow = false ∧
      ((s.takePhaseLevels 0).axis 0).inputs.phb.level = some (y ^^ j) ∧
      (s.axis 0).inputs.pha.changeDue (s.axis 0).config.filterLen = i ∧
      (s.axis 0).inputs.phb.changeDue (s.axis 0).config.filterLen = j := by decide

/-- Axis 0 with modulus `m` at position `x`. -/
def modular (m : Nat) (x : Word) (s : State) : State :=
  s.setAxis 0 { s.axis 0 with config := { (s.axis 0).config with modulus := m }, position := x }

/-- A linear axis; the smallest and the largest modulus, each at the first and the last position. -/
theorem witness_CountArrivalMovesAxisAndDeltas :
    (base.axis 0).config.modulus = 0 ∧
      ∀ mx ∈ [(2, (0 : Word)), (2, 1), (2147483647, 0), (2147483647, 2147483646)],
        let u := (modular mx.1 mx.2 base).axis 0
        2 ≤ u.config.modulus ∧ u.config.modulus ≤ 2147483647 ∧ 0 ≤ u.position.toInt ∧
          u.position.toInt < u.config.modulus := by decide

/-- Axis 0 with this motion state and timer. -/
def moving (m : MotionState) (t : Timer) (s : State) : State :=
  s.setAxis 0 { s.axis 0 with motion := m, stallTimer := t }

theorem witness_MotionMonitorFollowsItsTable :
    (∀ m ∈ [MotionState.off, .still, .moving], ((moving m .stopped base).axis 0).motion = m) ∧
      ((moving .moving .due base).axis 0).stallTimer = .due ∧ Makers.mk .axis .table .axis ≠ .axisFirst := by decide

theorem witness_ReferenceMovesTheAxis : Makers.mk .table .axis .axis ≠ .axisFirst := by decide

theorem witness_EdgesDriveTheReferenceState :
    ∀ r ∈ [RefState.idle, .waitHome false, .waitHome true, .waitIndex, .everyIndex],
      ((marks r (settled false 4) (settled true 4) base).axis 0).pairDue .references = true ∧
        ((marks r (settled false 4) (settled true 4) base).axis 0).refState = r := by decide

/-! #### Axis commands -/

/-- The configuration after reset but for F, modulus, stall limit and preset. -/
def configWith (F M K : Nat) (v : Word) : AxisConfig :=
  { AxisConfig.reset with filterLen := F, modulus := M, stallLimit := K, preset := v }

/-- The axes of `base` keep their laws. -/
theorem base_axis_ok : (base.axis 0).Ok where
  filterLen := by decide
  modulus := by decide
  position := by decide
  preset := by decide
  linear := by decide
  off := by decide
  timer := by decide
  pha := ⟨by decide, by decide⟩
  phb := ⟨by decide, by decide⟩
  idx := ⟨by decide, by decide⟩
  home := ⟨by decide, by decide⟩

/-- The smallest and the largest of every field, and the same modulus with a slot ARMED. -/
theorem witness_AxisSetTakesTheConfiguration :
    (∀ c ∈ [configWith 1 2 0 1, configWith 32 2147483647 65535 2147483646, configWith 4 0 20 (-1)],
      runs .axisSet .a 0x10 base (c.params 0) = true ∧ c.stallLimit ≤ 65535 ∧ (1 ≤ c.filterLen ∧ c.filterLen ≤ 32) ∧
        (c.modulus ≠ 1 ∧ c.modulus ≤ 2147483647) ∧ (c.modulus ≠ 0 → 0 ≤ c.preset.toInt ∧ c.preset.toInt < c.modulus)) ∧
      base.axisRight 0 = some .a ∧ base.armList 0 = [] ∧ (base.axis 0).Ok :=
  ⟨by decide, by decide, by decide, base_axis_ok⟩

/-- The parameters of AXIS_SET on axis 0 with mode, F, modulus and preset. -/
def setParams (mode F : Byte) (M v : Word) : List Byte := [0, mode, 0, F] ++ le32 M ++ [0, 0] ++ le32 v ++ [0, 0]

theorem witness_AxisSetRefusesInOrder :
    ([setParams 2 4 0 0, setParams 0 0 0 0, setParams 0 33 0 0, setParams 0 4 1 0, setParams 0 4 2147483648 0,
      setParams 0 4 2 (-1), setParams 0 4 2 2, setParams 1 4 0 0, setParams 0 4 2 0].all
        (runs .axisSet .a 0x10 armedStrobe)) = true ∧
      armedStrobe.axisRight 0 = some .a ∧ armedStrobe.armList 0 ≠ [] ∧
      1 < paramNat (setParams 2 4 0 0) 1 ∧ paramNat (setParams 0 0 0 0) 3 = 0 ∧ 32 < paramNat (setParams 0 33 0 0) 3 ∧
      paramWord (setParams 0 4 1 0) 4 = 1 ∧ 2147483647 < (paramWord (setParams 0 4 2147483648 0) 4).toNat ∧
      (paramWord (setParams 0 4 2 (-1)) 10).toInt < 0 ∧ (2 : Int) ≤ (paramWord (setParams 0 4 2 2) 10).toInt ∧
      paramNat (setParams 1 4 0 0) 1 ≠ (armedStrobe.axis 0).config.mode.code.toNat ∧
      (paramWord (setParams 0 4 2 0) 4).toNat ≠ (armedStrobe.axis 0).config.modulus := by decide

theorem witness_ClearDoubtRefarmAndReadAnAxis :
    runs .axisClearDoubt .a 0x11 base [byteOf (0 : Axis)] = true ∧ base.axisRight 0 = some .a ∧
      ([0, 1, 2, 3, 4, 5, 0xFF].all fun k => runs .axisRefarm .a 0x13 base [byteOf (0 : Axis), k]) = true ∧
      runs .axisRead .b 0x12 base [byteOf (3 : Axis)] = true := by decide

/-- Positions in and out of range on both kinds of axis. -/
theorem witness_AxisPresetTakesAReference :
    (([0, 999, 1000, -1].all fun v => runs .axisPreset .a 0x14 base (byteOf (0 : Axis) :: le32 v) &&
      runs .axisPreset .a 0x14 (modular 1000 5 base) (byteOf (0 : Axis) :: le32 v)) = true) ∧
      base.axisRight 0 = some .a ∧ (base.axis 0).config.modulus = 0 ∧
      ((modular 1000 5 base).axis 0).config.modulus = 1000 ∧ (999 : Word).toInt < 1000 ∧ 1000 ≤ (1000 : Word).toInt ∧
      (-1 : Word).toInt < 0 := by decide

/-- The first number past the range, and a number in range of what the port does not own. -/
theorem witness_NumberAndOwnerChecksComeFirst :
    (([[4], [1]].all fun ps => runs .axisClearDoubt .a 0x11 base ps && runs .axisRead .a 0x12 base ps &&
      runs .axisRefarm .a 0x13 base (ps ++ [0]) && runs .axisPreset .a 0x14 base (ps ++ [0, 0, 0, 0]) &&
      runs .axisSet .a 0x10 base (ps ++ List.replicate 15 0)) = true) ∧ base.axisRight 1 ≠ some .a ∧
    (([[96], [95], [0]].all fun ps => runs .trigArm .a 0x21 armedStrobe (ps ++ [0, 0, 0]) &&
      runs .trigDisarm .a 0x22 armedStrobe ps && runs .trigDelete .a 0x23 armedStrobe ps &&
      runs .trigRead .a 0x24 armedStrobe ps) = true) ∧ armedStrobe.slot 95 = none ∧
      (armedStrobe.slot 0).map (·.owner) = some .b ∧
    (runs .lineClaim .a 0x30 base [8, 0, 0] = true ∧ runs .lineRelease .a 0x31 base [8] = true ∧
      runs .lineDrive .a 0x32 base [8, 1, 0, 0] = true ∧ runs .lineRead .a 0x33 base [8] = true) := by decide

/-! #### Trigger commands -/

theorem strobe_agrees : strobe.Agrees :=
  ⟨fun _ _ hj hp => by cases hj; cases hp; decide, fun _ hr => by cases hr; decide⟩

theorem strobe_inRange : strobe.InRange 1000 := fun _ => ⟨by decide, fun _ hr => by cases hr; decide⟩

/-- Port B owns line 5 and has room; with a held count of 2 it is at its quota; port A does not own the line. -/
theorem witness_TrigDefineFillsTheLowestFreeSlot :
    let s := modular 1000 0 base
    (runs .trigDefine .b 0x20 s strobe.params = true ∧ strobe.Agrees ∧
      strobe.InRange (s.axis strobe.axis).config.modulus ∧ strobe.state = .staged ∧ strobe.owner = .b ∧
      strobe.target = strobe.origin ∧ (∀ r, strobe.rep = some r → r.firesLeft = r.firesTotal) ∧
      (∀ j, strobe.job = some j → (s.line j.line).owner = some .b) ∧ s.heldBy .b < (s.session .b).quota ∧
      s.slot 0 = none ∧ ∀ m : SlotNo, m < 0 → s.slot m ≠ none) ∧
    (runs .trigDefine .b 0x20 (s.setHeld .b 2) strobe.params = true ∧
      (s.setHeld .b 2).heldBy .b = ((s.setHeld .b 2).session .b).quota) ∧
    (runs .trigDefine .a 0x20 s ({ strobe with owner := .a } : Trigger).params = true ∧ (s.line 5).owner ≠ some .a) := by
  refine ⟨⟨by decide, strobe_agrees, strobe_inRange, by decide, by decide, by decide, ?_, ?_, by decide, by decide, ?_⟩,
    by decide, by decide⟩
  · intro r hr; cases hr; rfl
  · intro j hj; cases hj; decide
  · intro m hm; exact absurd hm (by simp)

/-- The parameters of TRIG_DEFINE: axis, origin, direction, action, line, width, pitch, fires_total, successor, and the
last three fields. -/
def defParams (axis : Byte) (origin : Word) (dir act line : Byte) (width : Half) (pitch : Word) (total : Half)
    (succ : Byte) (last : List Byte) : List Byte :=
  [axis, 0, 0] ++ le32 origin ++ [dir, act, line] ++ le16 width ++ le32 pitch ++ le16 total ++ [succ] ++ last

/-- Each disagreement of R55, and each range of R56 at its first value outside, on an axis of modulus 1,000. -/
theorem witness_TrigDefineRefusesInOrder :
    ([defParams 0 0 3 0 0xFF 0 0 0 0xFF [0, 0, 0], defParams 0 0 0 5 0 0 0 0 0xFF [0, 0, 0],
      defParams 0 0 0 0 0xFF 0 0 0 0xFF [2, 0, 0], defParams 0 0 2 0 0xFF 0 1 0 0xFF [0, 0, 0],
      defParams 0 0 0 0 0xFF 0 (-1) 0 0xFF [0, 0, 0], defParams 0 0 1 0 0xFF 0 1 0 0xFF [0, 0, 0],
      defParams 0 0 0 4 0 0 0 0 0xFF [0, 0, 0], defParams 0 0 0 1 0 1 0 0 0xFF [0, 0, 0],
      defParams 0 0 0 0 3 0 0 0 0xFF [0, 0, 0], defParams 0 0 0 1 0xFF 0 0 0 0xFF [0, 0, 0],
      defParams 0 0 0 0 0xFF 0 0 1 0xFF [0, 0, 0]].all (runs .trigDefine .b 0x20 (modular 1000 0 base))) = true ∧
    ([defParams 4 0 0 0 0xFF 0 0 0 0xFF [0, 0, 0], defParams 0 0 0 1 8 0 0 0 0xFF [0, 0, 0],
      defParams 0 0 0 0 0xFF 0 0 0 96 [0, 0, 0], defParams 0 (-1) 0 0 0xFF 0 0 0 0xFF [0, 0, 0],
      defParams 0 1000 0 0 0xFF 0 0 0 0xFF [0, 0, 0], defParams 0 0 0 0 0xFF 0 1000 0 0xFF [0, 0, 0]].all
        (runs .trigDefine .b 0x20 (modular 1000 0 base))) = true ∧
    answer .b (after (.trigDefine .b) (asking .b 0x20 (defParams 0 0 0 0 0xFF 0 0 1 0xFF [0, 0, 0]) base)) =
      some (.badArg, []) ∧
    answer .b (after (.trigDefine .b) (asking .b 0x20 (defParams 0 0 0 0 0xFF 0 1000 0 0xFF [0, 0, 0])
      (modular 1000 0 base))) = some (.range, []) ∧
    ([defParams 0 999 0 0 0xFF 0 999 0 95 [1, 1, 1], defParams 3 0 2 4 7 1 0 0 0 [0, 0, 0]].all
      (runs .trigDefine .b 0x20 (modular 1000 0 base))) = true := by decide

/-- STAGED with the right, a wrong and no epoch; out of range of a later modulus of 200; ARMED. -/
theorem witness_TrigArmArmsAtTheOrigin :
    let s := withSlot 0 strobe base
    ([[byteOf (0 : SlotNo), 1] ++ le16 0, [byteOf (0 : SlotNo), 1] ++ le16 1, [byteOf (0 : SlotNo), 0] ++ le16 1].all
      (runs .trigArm .b 0x21 s)) = true ∧ s.slot 0 = some strobe ∧ s.epochOf 0 = 0 ∧ (1 : Half) ≠ s.epochOf 0 ∧
      strobe.InRange (s.axis 0).config.modulus ∧
      runs .trigArm .b 0x21 (modular 200 0 s) ([byteOf (0 : SlotNo), 0] ++ le16 0) = true ∧
      ¬strobe.InRange ((modular 200 0 s).axis 0).config.modulus ∧
      runs .trigArm .b 0x21 armedStrobe ([byteOf (0 : SlotNo), 0] ++ le16 0) = true ∧
      (armedStrobe.slot 0).map (·.state) = some .armed := by
  refine ⟨by decide, by decide, by decide, by decide, fun h => absurd rfl h, by decide, ?_, by decide, by decide⟩
  intro h; exact absurd (h (by decide)).1.2 (by decide)

theorem witness_TrigDisarmAndDelete :
    let retiring := withSlot 0 { strobe with state := .retiring } base
    let staged := withSlot 0 strobe base
    ([armedStrobe, staged, retiring, armedStrobe.setNote .b fullUnit].all fun s =>
      runs .trigDisarm .b 0x22 s [byteOf (0 : SlotNo)] && runs .trigDelete .b 0x23 s [byteOf (0 : SlotNo)]) = true ∧
      (armedStrobe.note .b).owed = [] ∧ (∃ e ∈ fullUnit.owed, e.report.source = .slot 0) ∧
      (retiring.slot 0).map (·.state) = some .retiring ∧ staged.slot 0 = some strobe := by decide

theorem witness_TrigReadAndListShowTheTable :
    runs .trigRead .b 0x24 armedStrobe [byteOf (0 : SlotNo)] = true ∧ (armedStrobe.slot 0).map (·.owner) = some .b ∧
      ([[0, 0], [3, 95], [4, 0], [0, 96]].all (runs .trigList .a 0x25 armedStrobe)) = true := by decide

/-! #### The table -/

/-- Slots 0 and 1 of port B ARMED at 750 and 900, slot 1 with bind DROP. -/
def twoArmed : State :=
  withSlot 1 { plain .b 900 with state := .armed, bind := .drop, successor := some 2 } armedStrobe

theorem twoArmed_slots (n : SlotNo) : twoArmed.slot n =
    if n = 0 then some { strobe with state := .armed, target := 750 }
    else if n = 1 then some { plain .b 900 with state := .armed, bind := .drop, successor := some 2 } else none := by
  revert n; decide

theorem twoArmed_armLists (a : Axis) : twoArmed.armList a = if a = 0 then [0, 1] else [] := by revert a; decide

theorem twoArmed_tableOk : twoArmed.TableOk where
  listed a n := by
    rw [twoArmed_slots, twoArmed_armLists]
    by_cases h0 : n = 0
    · subst h0; by_cases ha : a = 0 <;> simp [ha, strobe, plain, eq_comm]
    · by_cases h1 : n = 1
      · subst h1; by_cases ha : a = 0 <;> simp [ha, plain, eq_comm]
      · by_cases ha : a = 0 <;> simp [ha, h0, h1]
  once a := by revert a; decide
  sorted a := by revert a; decide
  atOrigin n t h hs := by
    rw [twoArmed_slots] at h
    split at h
    · cases h; exact absurd rfl hs
    · split at h
      · cases h; exact absurd rfl hs
      · cases h

theorem witness_PlacementGoesBehindEquals :
    (twoArmed.armList 0).Pairwise (fun m k => twoArmed.targetOf m ≤ twoArmed.targetOf k) := by decide

theorem witness_MatchedSlotsFireInListOrder :
    (twoArmed.setInbox 0 [.arrival (arrivalAt 750)]).inbox 0 = .arrival (arrivalAt 750) :: [] ∧
      (arrivalAt 750).axis = 0 := by decide

theorem witness_FireActsOnTheLineAndReports :
    twoArmed.slot 0 = some { strobe with state := .armed, target := 750 } ∧
      (twoArmed.slot 1).map (fun t => (t.state, t.successor)) = some (.armed, some 2) := by decide

/-- Unlimited repeats on a linear and a modular axis and two fires left; a last fire with retain yes, with retain no, and
with an owed entry. -/
theorem witness_FireSettlesItsOwnSlot :
    let s := modular 1000 0 twoArmed
    let last := { plain .b 900 with state := .armed, dir := .up, rep := some ⟨500, 3, 1⟩ }
    (twoArmed.slot 0).map (fun t => (t.state, t.rep)) = some (.armed, some ⟨500, 0, 0⟩) ∧
      (s.axis 0).config.modulus = 1000 ∧ (0 : Int) ≤ (750 : Word).toInt ∧ (750 : Word).toInt < 1000 ∧
      (500 : Word).toInt.natAbs < 1000 ∧
      ((withSlot 2 { last with rep := some ⟨500, 3, 2⟩ } base).slot 2).bind (·.rep) = some ⟨500, 3, 2⟩ ∧
      (∀ t ∈ [last, { last with retain := true }],
        (withSlot 2 t base).slot 2 = some t ∧ t.finishing = true ∧ t.successor ≠ some 2) ∧
      (((withSlot 0 last base).fire (arrivalAt 900) 0).note .b).owes 0 = false ∧
      (((withSlot 0 { last with notify := true } (base.setNote .b fullUnit)).fire (arrivalAt 900) 0).note .b).owes 0 =
        true := by decide

/-- Slot 1 names slot 2: STAGED and B's, and then not there. -/
theorem witness_FireArmsItsSuccessor :
    let s := withSlot 2 (plain .b 40) twoArmed
    (s.slot 1).any (fun t => t.state = .armed ∧ t.successor = some 2 ∧ s.chainArms 1 t 2 = true) = true ∧
      s.slot 2 = some (plain .b 40) ∧
      (twoArmed.slot 1).any (fun t => t.successor = some 2 ∧ twoArmed.chainArms 1 t 2 = false) = true := by decide

/-- The table's laws say nothing of the records on their way. -/
theorem witness_ReferenceRecordDisarmsDropSlots :
    let r : Reference := ⟨0, .index, 812, 0, 2, 77⟩
    (twoArmed.setInbox 0 [.reference r]).inbox 0 = .reference r :: [] ∧ r.axis = 0 ∧
      (twoArmed.setInbox 0 [.reference r]).TableOk :=
  ⟨by decide, rfl, ⟨twoArmed_tableOk.listed, twoArmed_tableOk.once, twoArmed_tableOk.sorted, twoArmed_tableOk.atOrigin⟩⟩

/-- A list with a DROP slot and nothing on its way; an arrival and a reference on their way. -/
theorem witness_AxisPresetTakesAReference_at_the_table :
    twoArmed.inbox 0 = [] ∧ twoArmed.TableOk ∧ (twoArmed.slot 1).map (·.bind) = some .drop ∧
      (twoArmed.setInbox 0 [.arrival (arrivalAt 3)]).inbox 0 = .arrival (arrivalAt 3) :: [] ∧
      (twoArmed.setInbox 0 [.reference ⟨0, .preset, 3, 9, 1, 78⟩]).inbox 0 = .reference ⟨0, .preset, 3, 9, 1, 78⟩ :: [] :=
  ⟨by decide, twoArmed_tableOk, by decide, by decide, by decide⟩

/-! #### Lines and notifications -/

theorem witness_LineActionsPinsAndExpiry :
    (base.line 2).owner.isSome = true ∧ (base.line 2).polarity = .activeHigh ∧ (base.line 5).polarity = .activeLow ∧
      (base.line 0).owner = none ∧
      ((base.setLine 2 { base.line 2 with state := .active, timer := .due }).line 2).timer = .due := by decide

/-- Codes past the range; another's, an own and a free line; a release of a line not owned, one named by a slot, one free
of slots. -/
theorem witness_LineClaimAndRelease :
    ([[byteOf (0 : LineNo), 2, 0], [byteOf (0 : LineNo), 0, 3], [byteOf (5 : LineNo), 0, 0], [byteOf (2 : LineNo), 0, 0],
      [byteOf (7 : LineNo), 1, 2]].all (runs .lineClaim .a 0x30 base)) = true ∧
      (base.line 5).owner = some .b ∧ (base.line 2).owner = some .a ∧ (base.line 7).owner = none ∧
      runs .lineRelease .a 0x31 base [byteOf (7 : LineNo)] = true ∧
      runs .lineRelease .b 0x31 armedStrobe [byteOf (5 : LineNo)] = true ∧
      (armedStrobe.slot 0).any (fun t => t.owner = .b ∧ t.state = .armed ∧ t.job = some ⟨5, .pulse 100⟩) = true ∧
      runs .lineRelease .a 0x31 base [byteOf (2 : LineNo)] = true ∧ (∀ n, base.slot n = none) := by decide

theorem witness_LineDriveAndRead :
    ([[byteOf (2 : LineNo), 0] ++ le16 0, [byteOf (2 : LineNo), 5] ++ le16 0, [byteOf (2 : LineNo), 4] ++ le16 0,
      [byteOf (2 : LineNo), 1] ++ le16 1, [byteOf (2 : LineNo), 1] ++ le16 0, [byteOf (2 : LineNo), 3] ++ le16 0,
      [byteOf (2 : LineNo), 4] ++ le16 1, [byteOf (2 : LineNo), 4] ++ le16 0xFFFF,
      [byteOf (5 : LineNo), 1] ++ le16 0].all (runs .lineDrive .a 0x32 base)) = true ∧
      (base.line 2).owner = some .a ∧ (base.line 5).owner ≠ some .a ∧
      runs .lineRead .c 0x33 (opened .c 0 base) [byteOf (5 : LineNo)] = true := by decide

/-- Intake OFF; 15 notes and nothing owed; 16 notes with an entry of the same source and kind, and with none. -/
theorem witness_EntryRuleOfNotifications :
    NoteUnit.reset.intake = false ∧ (notesOf 15).length < 16 ∧ fullUnit.intake = true ∧ 16 ≤ fullUnit.queue.length ∧
      fullUnit.owed = [] ++ ⟨6, fired⟩ :: [] ∧
      (∀ x ∈ fullUnit.owed, ¬(x.report.source = .slot 1 ∧ x.report.kind = fired.kind)) := by decide

theorem witness_NoteReadAndAck :
    ([[0], [1], [4], [5]].all (runs .noteRead .b 0x40 (base.setNote .b fullUnit))) = true ∧
      ([le16 0, le16 15, le16 16].all (runs .noteAck .b 0x41 (base.setNote .b fullUnit))) = true ∧
      (∀ n ∈ fullUnit.queue, n.seq ≠ 16) ∧ fullUnit.queue = [] ++ ⟨0, 1, fired⟩ :: (notesOf 16).drop 1 ∧
      fullUnit.queue = notesOf 15 ++ ⟨15, 1, fired⟩ :: [] ∧ (∀ n ∈ notesOf 15, n.seq ≠ 15) := by decide

theorem witness_SnapRunsByAxisSteps :
    ([[0], [1], [15], [16]].all (runs .snap .a 0x50 base)) = true ∧
      ((after (.snap .a) (asking .a 0x50 [5] base)).link .a).flight =
        some ⟨request 0x50 [5], .snapping ⟨0 :: [2], 0, []⟩⟩ ∧
      ((after (.snapAxisStep .a) (after (.snap .a) (asking .a 0x50 [5] base))).link .a).flight.map (·.stage) =
        some (.snapping ⟨2 :: [], 0, List.replicate 16 0⟩) := by decide

theorem witness_SubscribeReplacesOneMask :
    ([[0, 0], [3, 15], [4, 0], [0, 16]].all (runs .subscribe .a 0x51 base)) = true := by decide

/-! #### Sessions -/

/-- Quota 96 and 97, room for it and none, and an open session. -/
theorem witness_OpenStartsASession :
    (([0, 96, 97].all fun q => runs .openSession .a 1 State.reset (le16 0xFFFF ++ [q]) &&
      runs .openSession .a 1 base (le16 0 ++ [q]) && runs .openSession .c 1 base (le16 0 ++ [q])) = true) ∧
      (State.reset.session .a).state = .closed ∧ State.reset.unreserved = 96 ∧ (base.session .a).state = .opened ∧
      base.unreserved < 96 := by decide

/-- A part with nothing in flight, no grant and nobody waiting keeps the arbiter's laws. -/
theorem idle_arbiterOk (s : State) (hg : s.grant = none) (hw : s.waiting = .all false)
    (hl : s.links = .all Link.reset) : s.ArbiterOk := by
  have hlink : ∀ p, s.link p = Link.reset := by intro p; simp only [State.link, hl]; cases p <;> rfl
  refine ⟨fun p => ?_, fun _ p => ?_, fun p h => ?_, fun p h => ?_, fun p h => ?_, fun p h => ?_⟩
  · rw [hlink]; exact ⟨by decide, by decide, by decide, by decide, by decide, by decide⟩
  · rw [hw]; cases p <;> rfl
  · rw [hw] at h; cases p <;> cases h
  · rw [hg] at h; cases h
  · obtain ⟨req, c, h, -⟩ := h; rw [hlink] at h; cases h
  · obtain ⟨req, h⟩ := h; rw [hlink] at h; cases h

/-- Port A's session with a keepalive timer that has run out. -/
def lapsed : State := base.setSession .a { base.session .a with keepalive := 1, timer := .due }

theorem witness_CloseAndExpiryBeginThePurge :
    runs .closeSession .a 2 base [] = true ∧
      (lapsed.ArbiterOk ∧ (lapsed.session .a).timer = .due ∧ (lapsed.link .a).flight = none) ∧
      ((after (.snap .a) (asking .a 0x50 [15] lapsed)).link .a).flight.map (·.stage) =
        some (.snapping ⟨[0, 1, 2, 3], 0, []⟩) ∧
      ((after (.closeSession .a) (asking .a 2 [] base)).link .a).flight.map (·.stage) = some .closing :=
  ⟨by decide, ⟨idle_arbiterOk _ rfl rfl rfl, by decide, by decide⟩, by decide, by decide⟩

theorem witness_PurgeStepsGiveBack :
    ∀ g ∈ [(⟨true, false, false, false, false, false⟩ : Purge), ⟨false, true, false, false, false, false⟩],
      ((ending .a g base).session .a).purge = some g ∧ g.lines = false ∧ g.notes = false ∧ g.view = false ∧
        g.rights = false := by decide

theorem witness_PurgeCloseEndsTheSession :
    let g : Purge := ⟨true, true, true, true, true, true⟩
    let held := (ending .a g base).setLink .a { base.link .a with
      slot := .pending, heldRequest := some (request 0 []), flight := some ⟨request 0 [], .held⟩ }
    ((ending .a g base).session .a).purge = some ⟨true, true, true, true, true, true⟩ ∧
      ((ending .a g base).link .a).flight = none ∧ (held.link .a).flight = some ⟨request 0 [], .held⟩ ∧
      ((after (.closeSession .a) (asking .a 2 [] base)).link .a).flight = some ⟨request 2 [], .closing⟩ := by decide

theorem witness_StatusAndAxisRights :
    runs .status .c 3 base [] = true ∧ ([[0], [3], [4]].all (runs .axisClaim .a 4 base)) = true ∧
      runs .axisClaim .b 4 base [0] = true ∧ base.axisRight 0 = some .a ∧ base.axisRight 3 = none ∧
      ([[0], [3], [4]].all (runs .axisRelease .a 5 base)) = true := by decide

/-! #### Port links -/

theorem witness_TransactionStartBuildsTheFrame :
    let ready := after (.nop .a) (asking .a 0 [] base)
    (base.link .a).selectLow = false ∧ base.inReset = false ∧ (base.link .a).slot = .empty ∧
      ((asking .a 0 [] base).link .a).slot = .pending ∧ (ready.link .a).slot = .ready ∧
      (ready.link .a).heldResponse = some ⟨7, .ok, []⟩ ∧
      ((after (.transactionStart .a) base).link .a).inTransaction = true ∧
      ((after (.transactionStart .a) base).link .a).outFrame.length = 10 ∧ (base.link .a).inTransaction = false := by
  decide

/-- Seven and eight bytes of 0xFF, with the slot EMPTY, PENDING and READY. -/
theorem witness_PollAndResync :
    let pending := after (.transactionStart .a) (asking .a 0 [] base)
    let ready := after (.transactionStart .a) (after (.nop .a) (asking .a 0 [] base))
    ((after (.transactionStart .a) base).link .a).inTransaction = true ∧ (pending.link .a).inTransaction = true ∧
      (pending.link .a).slot = .pending ∧ (ready.link .a).inTransaction = true ∧ (ready.link .a).slot = .ready ∧
      wholeBytes (List.replicate 63 true) = List.replicate 7 0xFF ∧
      wholeBytes (List.replicate 64 true) = List.replicate 8 0xFF := by decide

/-- A frame too short, a wrong CRC and a right one, with the slot EMPTY, PENDING, and READY with this request. -/
theorem witness_RequestFrameVerdict :
    let start := after (.transactionStart .a)
    let bytes : List Byte := [0x5A, 0x00, 0x01, 0x00, 0x15]
    let pending := after (.requestFrame .a (bitsOfBytes bytes)) (start base)
    let ready := start (after (.nop .a) pending)
    ((start base).link .a).inTransaction = true ∧ ((start base).link .a).slot = .empty ∧
      wholeBytes (bitsOfBytes bytes) = bytes ∧ crc8 ((bytes.drop 1).take 3) = bytes.getD 4 0 ∧
      crc8 (([0x5A, 0x00, 0x01, 0x00, 0x16].drop 1).take 3) ≠ ([0x5A, 0x00, 0x01, 0x00, 0x16] : List Byte).getD 4 0 ∧
      ((start pending).link .a).inTransaction = true ∧ ((start pending).link .a).slot = .pending ∧
      (ready.link .a).inTransaction = true ∧ (ready.link .a).slot = .ready ∧
      (ready.link .a).heldRequest = some ⟨1, 0, []⟩ := by decide

theorem witness_CommandsStartAndEnd :
    (base.link .a).discard = false ∧
      ((after (.resync .a (List.replicate 64 true)) (after (.transactionStart .a) (asking .a 0 [] base))).link
        .a).discard = true ∧
      base.grant ≠ some .a ∧ (asking .a 3 [] base).grant = some .a ∧
      ({ asking .a 3 [] base with waiting := ⟨false, false, true⟩ } : State).waiting.get .c = true ∧
      (request 0x60 []).command = none ∧ (request 0 []).command = some .nop ∧ (request 3 []).command = some .status := by
  decide

theorem witness_CommonChecksAndNop :
    (asking .c 0x33 [0] base).runnable .lineRead .c = some (request 0x33 [0]) ∧ (base.session .c).state = .closed ∧
      (asking .a 0x33 [0, 0] base).runnable .lineRead .a = some (request 0x33 [0, 0]) ∧
      (base.session .a).state = .opened ∧ (0x33, Cmd.lineRead, 1) ∈ commandTable ∧ runs .nop .c 0 base [] = true := by decide

/-- Seven bits left over; the shortest and the longest frame that reach the CRC check. -/
theorem witness_WireBytesAndCrc :
    ([true, false, true, false, true, false, true] : List Bool).length < 8 ∧
      ∀ len ∈ [0, 24], let bytes : List Byte := [0x5A, byteOf len] ++ List.replicate (len + 3) 0
        len = (bytes.getD 1 0).toNat ∧ len ≤ 24 ∧ len + 5 ≤ bytes.length := by decide

/-! #### Frames and invariants -/

theorem witness_ReadingChangesNoBlock :
    exec (.noteRead .a) base = .next base ∧
      Instr.noteRead .a ∈ [Instr.nop .a, .status .a, .axisRead .a, .trigRead .a, .trigList .a, .lineRead .a, .noteRead .a] :=
  ⟨rfl, by decide⟩

/-- One command of each group with an effect: a right, DOUBT, a position by AXIS_PRESET, a slot, a line, a queue, a mask, a
fire, a pulse, a count. -/
theorem witness_CommandsStayInTheirBlocks :
    let claim := asking .b 4 [3] base
    let clear := asking .a 0x11 [0] (base.setAxis 0 { base.axis 0 with doubt := true })
    let preset := asking .a 0x14 [0, 5, 0, 0, 0] base
    let define := asking .b 0x20 strobeParams base
    let line := asking .a 0x30 [7, 0, 0] base
    let ack := asking .b 0x41 [3, 0] (base.setNote .b fullUnit)
    let mask := asking .a 0x51 [0, 7] base
    let arrival := armedStrobe.setInbox 0 [.arrival (arrivalAt 750)]
    let pulse := base.setLine 2 { base.line 2 with state := .active, timer := .due }
    let change := phases .quadX4 (settled false 4) (settled false 0) base
    (exec (.axisClaim .b) claim = .next (after (.axisClaim .b) claim) ∧
      (after (.axisClaim .b) claim).axisRight 3 = some .b) ∧
    (exec (.axisClearDoubt .a) clear = .next (after (.axisClearDoubt .a) clear) ∧
      ((after (.axisClearDoubt .a) clear).axis 0).doubt = false) ∧
    (exec (.axisPreset .a .tableFirst) preset = .next (after (.axisPreset .a .tableFirst) preset) ∧
      ((after (.axisPreset .a .tableFirst) preset).axis 0).position = 5) ∧
    (exec (.trigDefine .b) define = .next (after (.trigDefine .b) define) ∧
      (after (.trigDefine .b) define).slot 0 = some strobe) ∧
    (exec (.lineClaim .a) line = .next (after (.lineClaim .a) line) ∧
      ((after (.lineClaim .a) line).line 7).owner = some .a) ∧
    (exec (.noteAck .b) ack = .next (after (.noteAck .b) ack) ∧
      ((after (.noteAck .b) ack).note .b).queue.length = 13) ∧
    (exec (.subscribe .a) mask = .next (after (.subscribe .a) mask) ∧
      ((after (.subscribe .a) mask).view .a).masks[0] = 7) ∧
    (exec (.matchCountArrival 0) arrival = .next (after (.matchCountArrival 0) arrival) ∧
      ((after (.matchCountArrival 0) arrival).slot 0).map (·.target) = some 1250) ∧
    (exec (.pulseExpiry 2) pulse = .next (after (.pulseExpiry 2) pulse) ∧
      (after (.pulseExpiry 2) pulse).line 2 = base.line 2) ∧
    (exec (.acceptedChange 0 .phases .axisFirst) change = .next (after (.acceptedChange 0 .phases .axisFirst) change) ∧
      ((after (.acceptedChange 0 .phases .axisFirst) change).axis 0).position = 1) := by
  refine ⟨⟨rfl, ?_⟩, ⟨rfl, ?_⟩, ⟨rfl, ?_⟩, ⟨rfl, ?_⟩, ⟨rfl, ?_⟩, ⟨rfl, ?_⟩, ⟨rfl, ?_⟩, ⟨rfl, ?_⟩, ⟨rfl, ?_⟩, ⟨rfl, ?_⟩⟩ <;>
    decide

theorem base_sessions (p : Port) : (base.session p).Ok := by cases p <;> exact ⟨by decide, by decide⟩

theorem witness_StepKeepsSessions : base.SessionsOk ∧ step base = .next base := ⟨⟨base_sessions, by decide⟩, rfl⟩

theorem noteUnit_empty_ok (b : Bool) : NoteUnit.Ok ⟨b, [], 0, [], .high⟩ := by
  constructor <;> simp

theorem fullUnit_ok : fullUnit.Ok where
  length := by decide
  seqs := by decide
  full := by decide
  once := by decide
  noteCounts := by decide
  owedCounts := by decide
  ntf := by decide
  off := by decide

/-- Port B's queue full with an owed entry. -/
theorem witness_StepKeepsNotificationUnits :
    (base.setNote .b fullUnit).NotesOk ∧ step (base.setNote .b fullUnit) = .next (base.setNote .b fullUnit) := by
  refine ⟨⟨base_sessions, fun p => ?_, fun p => ?_, fun p g h => ?_⟩, rfl⟩
  · cases p
    · exact noteUnit_empty_ok true
    · exact fullUnit_ok
    · exact noteUnit_empty_ok false
  · cases p <;> decide
  · cases p <;> cases h

theorem base_axesOk : base.AxesOk := fun a => by
  have h : base.axis a = base.axis 0 := by revert a; decide
  rw [h]; exact base_axis_ok

theorem witness_StepKeepsAxes : base.AxesOk ∧ base.DeltasOk ∧ step base = .next base :=
  ⟨base_axesOk, fun p => by cases p <;> decide, rfl⟩

theorem witness_StepKeepsArmLists :
    twoArmed.AxesOk ∧ twoArmed.TableOk ∧ twoArmed.SlotsOk ∧ step twoArmed = .next twoArmed := by
  refine ⟨base_axesOk, twoArmed_tableOk, fun n t h => ?_, rfl⟩
  have linear : ∀ a, (twoArmed.axis a).config.modulus = 0 := by decide
  rw [twoArmed_slots] at h
  refine ⟨?_, fun _ => ⟨fun hm => absurd (linear _) hm, fun hm => absurd (linear _) hm⟩⟩
  split at h
  · cases h; exact strobe_agrees
  · split at h
    · cases h; exact ⟨fun _ _ hj => (by cases hj), fun _ hr => (by cases hr)⟩
    · cases h

theorem witness_StepKeepsLinksAndArbiter : base.ArbiterOk ∧ step base = .next base :=
  ⟨idle_arbiterOk _ rfl rfl rfl, rfl⟩

theorem base_slot (n : SlotNo) : base.slot n = none := by revert n; decide

theorem base_ownershipOk : base.OwnershipOk := by
  refine ⟨base_sessions, by decide, fun n t j h => ?_, fun p h => ?_, fun p g h => ?_, fun p g h => ?_, fun p h => ?_⟩
  · rw [base_slot] at h; cases h
  · cases p
    · cases h
    · cases h
    · constructor <;> decide
  · cases p <;> cases h
  · cases p <;> cases h
  · cases p <;> cases h

theorem witness_StepKeepsOwnership : base.OwnershipOk ∧ step base = .next base := ⟨base_ownershipOk, rfl⟩

theorem witness_StepKeepsHeldCounts : twoArmed.HeldOk ∧ step twoArmed = .next twoArmed ∧
    base.HeldOk ∧ base.OwnershipOk ∧ base.QuotasOk ∧ step base = .next base :=
  ⟨fun p => by cases p <;> decide, rfl, fun p => by cases p <;> decide, base_ownershipOk,
    fun p => by cases p <;> decide, rfl⟩

/-- An arrival and then a reference on their way to the table. -/
theorem witness_StepKeepsEpochs :
    let s := (base.setAxis 0 { base.axis 0 with epoch := 1 }).setInbox 0
      [.arrival (arrivalAt 3), .reference ⟨0, .preset, 3, 9, 1, 78⟩]
    s.EpochsOk ∧ step s = .next s := by
  refine ⟨fun a => ?_, rfl⟩
  match a with
  | 0 => exact ⟨rfl, rfl, rfl, rfl, rfl⟩
  | 1 | 2 | 3 => exact rfl

end Sys2Proof.Tests
end

/-!
PROOF. The axis family: decoding and count arrivals (O8 to O11), the axis commands (O16, O18) and the steps of a purge
(O41).
-/

namespace Sys2Proof.Machine

/-! ### Accepted changes of the phases (R3, R5) -/

/-- An accepted change that is due turns the filtered level over and starts the run length again. -/
theorem Filter.acceptIfDue_of_due {F : Nat} {f : Filter} {l : Bool} (hl : f.level = some l)
    (h : f.changeDue F = true) : f.acceptIfDue F = { f with level := some !l, run := 0 } := by
  simp [Filter.acceptIfDue, Filter.accept, h, hl]

theorem Filter.acceptIfDue_of_notDue {F : Nat} {f : Filter} (h : f.changeDue F = false) : f.acceptIfDue F = f := by
  simp [Filter.acceptIfDue, h]

/-- The filtered level after a sample: turned over exactly by an accepted change. -/
theorem Filter.acceptIfDue_level {F : Nat} {f : Filter} {l : Bool} (hl : f.level = some l) :
    (f.acceptIfDue F).level = some (l ^^ f.changeDue F) := by
  cases h : f.changeDue F with
  | true => simp [Filter.acceptIfDue_of_due hl h]
  | false => simp [Filter.acceptIfDue_of_notDue h, hl]

@[simp] theorem State.takePhaseLevels_axis_self (s : State) (a : Axis) :
    (s.takePhaseLevels a).axis a = { s.axis a with inputs := { (s.axis a).inputs with
      pha := (s.axis a).inputs.pha.acceptIfDue (s.axis a).config.filterLen
      phb := (s.axis a).inputs.phb.acceptIfDue (s.axis a).config.filterLen } } := by
  simp [State.takePhaseLevels]

/-- The phases show the levels `x` and `y`, and both settled at an earlier sample, so that the decoder decides (R4). -/
structure Inputs.PhasesSettled (i : Inputs) (x y : Bool) : Prop where
  pha : i.pha.level = some x
  phb : i.phb.level = some y
  phaEarlier : i.pha.settledNow = false
  phbEarlier : i.phb.settledNow = false

theorem Inputs.PhasesSettled.decode {i : Inputs} {x y : Bool} (h : i.PhasesSettled x y) (cfg : AxisConfig) :
    i.decode cfg = decodePhases cfg.mode cfg.reverse x y (i.pha.changeDue cfg.filterLen)
      (i.phb.changeDue cfg.filterLen) := by
  obtain ⟨hx, hy, hx', hy'⟩ := h
  simp [Inputs.decode, hx, hy, hx', hy']

/-- What the axis does with the decoder's answer, once the levels are taken. -/
def State.takeDecoded (a : Axis) (makers : Makers) (s : State) : Decoded → State
  | .nothing => s
  | .count dir => s.countArrival a dir makers
  | .phaseSkip => s.phaseSkip a

section

variable {a : Axis} {makers : Makers} {s : State} {x y : Bool}

theorem exec_acceptedChange_notDue {inputs : InputPair} (h : (s.axis a).pairDue inputs = false) :
    exec (.acceptedChange a inputs makers) s = .next s := by
  simp [exec, execAcceptedChange, h]

/-- ACCEPTED_CHANGE of the phases: the levels are taken, then what the decoder answers. -/
theorem exec_acceptedChange_phases (h : (s.axis a).pairDue .phases = true) :
    exec (.acceptedChange a .phases makers) s =
      .next ((s.takePhaseLevels a).takeDecoded a makers ((s.axis a).inputs.decode (s.axis a).config)) := by
  simp only [exec, execAcceptedChange, h, if_true, State.acceptPhases, State.takePhaseLevels]
  cases (s.axis a).inputs.decode (s.axis a).config <;> rfl

/-- The same for settled phases, by whether each has an accepted change. -/
theorem exec_acceptedChange_settled {i j : Bool} (hs : (s.axis a).inputs.PhasesSettled x y)
    (hi : (s.axis a).inputs.pha.changeDue (s.axis a).config.filterLen = i)
    (hj : (s.axis a).inputs.phb.changeDue (s.axis a).config.filterLen = j) (h : (i || j) = true) :
    exec (.acceptedChange a .phases makers) s = .next ((s.takePhaseLevels a).takeDecoded a makers
      (decodePhases (s.axis a).config.mode (s.axis a).config.reverse x y i j)) := by
  rw [exec_acceptedChange_phases (by simpa [AxisUnit.pairDue, hi, hj] using h), hs.decode, hi, hj]

end

/-! ### The decoder's table (R6 to R8) -/

/-- A change of PHA alone is up exactly when the new pair follows in the up sequence (R6). -/
theorem decodePhases_quadX4_pha (reverse x y : Bool) :
    decodePhases .quadX4 reverse x y true false =
      .count (CountDir.reversed reverse (if (!x, y) = nextUp (x, y) then .up else .down)) := by
  cases x <;> cases y <;> rfl

/-- A change of PHB alone, likewise (R6). -/
theorem decodePhases_quadX4_phb (reverse x y : Bool) :
    decodePhases .quadX4 reverse x y false true =
      .count (CountDir.reversed reverse (if (x, !y) = nextUp (x, y) then .up else .down)) := by
  cases x <;> cases y <;> rfl

theorem decodePhases_quadX4_both (reverse x y : Bool) : decodePhases .quadX4 reverse x y true true = .phaseSkip := rfl

/-- PHA rising counts, directed by the level PHB has after the sample (R8). -/
theorem decodePhases_stepDir_rising (reverse y j : Bool) :
    decodePhases .stepDir reverse false y true j = .count (match y ^^ j, reverse with
      | false, false | true, true => .up
      | false, true | true, false => .down) := by
  cases y <;> cases j <;> cases reverse <;> rfl

/-- Without PHA rising there is no step (R8). -/
theorem decodePhases_stepDir_other (reverse x y i j : Bool) (h : i = true → x = true) :
    decodePhases .stepDir reverse x y i j = .nothing := by
  cases i with
  | false => simp [decodePhases]
  | true => simp [decodePhases, h rfl]

/-- STEP_DIR knows no phase skip (R7, R8). -/
theorem decodePhases_stepDir_ne_phaseSkip (reverse x y i j : Bool) :
    decodePhases .stepDir reverse x y i j ≠ .phaseSkip := by
  unfold decodePhases
  dsimp only
  split <;> simp

/-- Settles O8: the decoder's answer to a change of one phase is the up sequence, and the levels are taken first. -/
theorem quadratureCountsAlongTheSequence : Obligations.QuadratureCountsAlongTheSequence := by
  intro a makers s x y hmode hx hy hx' hy'
  have hs : (s.axis a).inputs.PhasesSettled x y := ⟨hx, hy, hx', hy'⟩
  refine ⟨fun hi hj => ⟨?_, ?_, ?_⟩, fun hi hj => ⟨?_, ?_, ?_⟩, fun hi hj => ?_⟩
  · rw [exec_acceptedChange_settled hs hi hj rfl, hmode, decodePhases_quadX4_pha]
    rfl
  · simp [Filter.acceptIfDue_of_due hx hi]
  · simp [Filter.acceptIfDue_of_notDue hj]
  · rw [exec_acceptedChange_settled hs hi hj rfl, hmode, decodePhases_quadX4_phb]
    rfl
  · simp [Filter.acceptIfDue_of_due hy hj]
  · simp [Filter.acceptIfDue_of_notDue hi]
  · exact exec_acceptedChange_notDue (by simp [AxisUnit.pairDue, hi, hj])

/-- Settles O10: PHB's level after the sample is its level before, turned over by its own accepted change. -/
theorem stepDirCountsRisingSteps : Obligations.StepDirCountsRisingSteps := by
  intro a makers s x y y' hmode hx hy hx' hy' hafter
  have hs : (s.axis a).inputs.PhasesSettled x y := ⟨hx, hy, hx', hy'⟩
  have hlevel : y' = (y ^^ (s.axis a).inputs.phb.changeDue (s.axis a).config.filterLen) := by
    simpa [Filter.acceptIfDue_level hy, eq_comm] using hafter
  refine ⟨fun hi hlow => ?_, fun h => ?_⟩
  · rw [exec_acceptedChange_settled hs hi rfl rfl, hmode, hlow, decodePhases_stepDir_rising, ← hlevel]
    rfl
  · have hdue : ((s.axis a).inputs.pha.changeDue (s.axis a).config.filterLen ||
        (s.axis a).inputs.phb.changeDue (s.axis a).config.filterLen) = true := by
      obtain ⟨hi, -⟩ | ⟨-, hj⟩ := h
      · simp [hi]
      · simp [hj]
    have hrise : (s.axis a).inputs.pha.changeDue (s.axis a).config.filterLen = true → x = true := by
      obtain ⟨-, hhigh⟩ | ⟨hi, -⟩ := h
      · exact fun _ => hhigh
      · simp [hi]
    rw [exec_acceptedChange_settled hs rfl rfl hdue, hmode, decodePhases_stepDir_other _ _ _ _ _ hrise]
    rfl

/-! ### Phase skips (R7, R12) -/

namespace State

variable (s : State) (a : Axis)

@[simp] theorem takePhaseLevels_view (p : Port) : (s.takePhaseLevels a).view p = s.view p := rfl

theorem takePhaseLevels_axis_ne {b : Axis} (h : b ≠ a) : (s.takePhaseLevels a).axis b = s.axis b :=
  setAxis_axis_ne _ _ _ h

/-- Nothing but a phase skip touches DOUBT. -/
theorem takeDecoded_doubt (makers : Makers) {d : Decoded} (h : d ≠ .phaseSkip) :
    ((s.takeDecoded a makers d).axis a).doubt = (s.axis a).doubt := by
  cases d with
  | nothing => rfl
  | count dir => simp [takeDecoded, countArrival_axis_self]
  | phaseSkip => exact absurd rfl h

theorem phaseSkip_axis_self : (s.phaseSkip a).axis a = { s.axis a with doubt := true } := by
  by_cases h : (s.axis a).doubt = true
  · simp [phaseSkip, ← h]
  · simp [phaseSkip, h]

theorem phaseSkip_axis_ne {b : Axis} (h : b ≠ a) : (s.phaseSkip a).axis b = s.axis b := by
  unfold phaseSkip
  dsimp only
  split <;> simp [setAxis_axis_ne _ _ _ h]

/-- DOUBT_SEEN is set in the port's context of the axis if DOUBT was clear (R12, R134). -/
theorem phaseSkip_view (p : Port) :
    (s.phaseSkip a).view p = if (s.axis a).doubt then s.view p else { s.view p with
      contexts := (s.view p).contexts.set a { (s.view p).contexts[a] with doubtSeen := true } } := by
  unfold phaseSkip
  dsimp only
  split <;> simp

/-- The DOUBT note goes to the ports subscribed to it if DOUBT was clear (R12, R141). -/
theorem phaseSkip_note (p : Port) :
    (s.phaseSkip a).note p =
      if (s.axis a).doubt = false ∧ s.subscribed p a 3 = true then (s.note p).take (s.axisReport a .doubt)
      else s.note p := by
  have hbit : NoteKind.doubt.maskBit = some 3 := rfl
  by_cases h : (s.axis a).doubt = true
  · simp [phaseSkip, h]
  · simp [phaseSkip, h, route_note, hears_eq_subscribed _ _ _ _ _ hbit, axisReport, subscribed]

end State

/-- Settles O9: the levels are taken, then the phase skip acts as `phaseSkip_axis_self`, `phaseSkip_view` and
`phaseSkip_note` say; no answer of STEP_DIR's decoder touches DOUBT. -/
theorem phaseSkipMarksDoubt : Obligations.PhaseSkipMarksDoubt := by
  intro a makers s x y hx hy hx' hy' hi hj
  have hs : (s.axis a).inputs.PhasesSettled x y := ⟨hx, hy, hx', hy'⟩
  refine ⟨fun hmode => ⟨(s.takePhaseLevels a).phaseSkip a, ?_, ?_, ?_, ?_, ?_, ?_, ?_, ?_⟩, fun hmode => ?_⟩
  · rw [exec_acceptedChange_settled hs hi hj rfl, hmode, decodePhases_quadX4_both]
    rfl
  · simp [State.phaseSkip_axis_self, Filter.acceptIfDue_of_due hx hi, Filter.acceptIfDue_of_due hy hj]
  · intro b hb
    rw [State.phaseSkip_axis_ne _ _ hb, State.takePhaseLevels_axis_ne _ _ hb]
  · intro p
    cases hd : (s.axis a).doubt <;> simp [State.phaseSkip_view, hd]
  · intro p b hb
    have hne : a.val ≠ b.val := fun h => hb (Fin.ext h.symm)
    cases hd : (s.axis a).doubt <;> simp [State.phaseSkip_view, hd, hne]
  · intro p
    cases hd : (s.axis a).doubt <;> simp [State.phaseSkip_view, hd]
  · intro p
    simp [State.phaseSkip_note, State.takePhaseLevels, State.subscribed, State.axisReport]
  · simp [State.takePhaseLevels, SameTime, SameTable, SameLines, SameSessions, SameRights, SameLinks, SameArbiter]
  · refine ⟨_, exec_acceptedChange_settled hs hi hj rfl, ?_⟩
    rw [hmode, State.takeDecoded_doubt _ _ _ (decodePhases_stepDir_ne_phaseSkip _ _ _ _ _)]
    simp

/-! ### Count arrivals (R9 to R11, R132) -/

/-- Up on a modular axis: from M − 1 to 0 with the revolution count, else one on (R10). -/
theorem countMove_up_modular {m : Nat} {pos : Word} {rev : Half} (hm : m ≠ 0) (hmax : m ≤ Config.maxModulus)
    (hpos : pos.toInt < m) :
    if pos.toInt = m - 1 then
      (countMove m .up pos rev).1 = 0 ∧ (countMove m .up pos rev).2 = rev + 1
    else
      (countMove m .up pos rev).1.toInt = pos.toInt + 1 ∧ (countMove m .up pos rev).2 = rev := by
  have hmax' : m ≤ 2147483647 := hmax
  split
  next h => simp [countMove, hm, h]
  next h => simpa [countMove, hm, h] using toInt_add_one_of_lt pos (by omega)

/-- Down on a modular axis: from 0 to M − 1 with the revolution count, else one back (R10). -/
theorem countMove_down_modular {m : Nat} {pos : Word} {rev : Half} (hm : m ≠ 0) (hmax : m ≤ Config.maxModulus)
    (hpos : 0 ≤ pos.toInt) :
    if pos.toInt = 0 then
      (countMove m .down pos rev).1.toInt = m - 1 ∧ (countMove m .down pos rev).2 = rev - 1
    else
      (countMove m .down pos rev).1.toInt = pos.toInt - 1 ∧ (countMove m .down pos rev).2 = rev := by
  have hmax' : m ≤ 2147483647 := hmax
  split
  next h =>
    have hzero := (toInt_eq_zero_iff pos).mp h
    have hlast := toInt_ofNat_of_lt (m - 1) (by omega)
    simp only [countMove, hm, hzero, if_true, if_false]
    exact ⟨by omega, trivial⟩
  next h =>
    have hzero : pos ≠ 0 := fun hp => h ((toInt_eq_zero_iff pos).mpr hp)
    have hback := toInt_sub_one_of_pos pos (by omega)
    simp only [countMove, hm, hzero, if_false]
    exact ⟨hback, trivial⟩

/-- With every unit hearing the axis unit first, the record waits behind those handed on before (R11). -/
theorem State.countArrival_inbox_axisFirst (s : State) (a : Axis) (dir : CountDir) :
    (s.countArrival a dir .axisFirst).inbox a = s.inbox a ++
      [.arrival ⟨a, dir, ((s.countMoved a dir).axis a).position, (s.axis a).epoch, s.tick⟩] := by
  simp [State.countArrival, State.shareEvent_axisFirst]

/-- Settles O11: the axis by `countMove`'s cases, the contexts by `Context.add`, the record by the waiting list. -/
theorem countArrivalMovesAxisAndDeltas : Obligations.CountArrivalMovesAxisAndDeltas := by
  intro s a dir makers
  have haxis := s.countArrival_axis_self a dir makers
  refine ⟨?_, fun b hb => s.countArrival_axis_ne a b dir makers hb, fun hm => ?_, fun hm hmax hlow hhigh => ?_,
    fun p => ?_, fun p b hb => ?_, fun p => ?_, ?_⟩
  · rw [haxis]
  · rw [haxis, hm, countMove_linear]
    exact ⟨rfl, rfl⟩
  · rw [haxis]
    have hm0 : (s.axis a).config.modulus ≠ 0 := by omega
    cases dir with
    | up => exact countMove_up_modular hm0 hmax hhigh
    | down => exact countMove_down_modular hm0 hmax hlow
  · rw [State.countArrival_view]
    cases dir <;> simp [Context.add]
  · have hne : a.val ≠ b.val := fun h => hb (Fin.ext h.symm)
    simp [State.countArrival_view, hne]
  · rw [State.countArrival_view]
  · rw [haxis, State.countArrival_inbox_axisFirst, State.countMoved_axis_self]

/-! ### Axis commands past their common checks (R17) -/

namespace State

variable {s : State} {p : Port} {n : Nat} {a : Axis} {k : Axis → Reply}

/-- The checks of R17 pass for the owner of the right of an axis there is. -/
theorem withAxis_of_owner {changes : Bool} (hn : n = a.val) (h : s.axisRight a = some p) :
    s.withAxis p n changes k = k a := by
  simp [withAxis, hn, h]

/-- A command that changes nothing needs no right. -/
theorem withAxis_of_read (hn : n = a.val) : s.withAxis p n false k = k a := by
  simp [withAxis, hn]

end State

/-- The first byte of an axis command's parameters names the axis. -/
@[simp] theorem paramNat_axis (a : Axis) (ps : List Byte) : paramNat (byteOf a.val :: ps) 0 = a.val := by
  simp [paramNat, paramByte]

@[simp] theorem paramNat_one (b c : Byte) (ps : List Byte) : paramNat (b :: c :: ps) 1 = c.toNat := rfl

/-- Arming kinds past the fifth have no meaning (R28). -/
theorem RefState.ofArmingKind_of_gt {n : Nat} (h : 4 < n) : RefState.ofArmingKind n = none := by
  unfold RefState.ofArmingKind
  split
  case h_6 => rfl
  all_goals omega

/-- The five arming kinds and the reference states they set (R28, section 10.6). -/
theorem RefState.ofArmingKind_of_mem {k : Byte} {r : RefState}
    (h : (k, r) ∈ [((0 : Byte), RefState.idle), (1, .waitHome false), (2, .waitHome true), (3, .waitIndex),
      (4, .everyIndex)]) : RefState.ofArmingKind k.toNat = some r := by
  simp only [List.mem_cons, Prod.mk.injEq, List.not_mem_nil, or_false] at h
  obtain ⟨rfl, rfl⟩ | ⟨rfl, rfl⟩ | ⟨rfl, rfl⟩ | ⟨rfl, rfl⟩ | ⟨rfl, rfl⟩ := h <;> rfl

/-- Then-index as AXIS_READ sends it is yes in one state alone (section 10.7). -/
theorem RefState.thenIndex_eq (r : RefState) : r.thenIndex = decide (r = .waitHome true) := by
  match r with
  | .waitHome true | .waitHome false | .idle | .waitIndex | .everyIndex => rfl

/-- Settles O18: each command passes the checks of R17 and its body is what the claim says. -/
theorem clearDoubtRefarmAndReadAnAxis : Obligations.ClearDoubtRefarmAndReadAnAxis := by
  intro p s req a
  refine ⟨fun hrun hps hown => ?_, fun k hrun hps hown => ⟨fun r hr => ?_, fun hk => ?_⟩, fun hrun hps => ?_⟩
  · refine congrArg _ (State.runCommand_ok hrun ?_)
    rw [hps]
    exact State.withAxis_of_owner (paramNat_axis a _) hown
  · refine congrArg _ (State.runCommand_ok hrun ?_)
    rw [hps, axisRefarmBody, State.withAxis_of_owner (paramNat_axis a _) hown, paramNat_one,
      RefState.ofArmingKind_of_mem hr]
  · refine congrArg _ (State.runCommand_refuse hrun ?_)
    rw [hps, axisRefarmBody, State.withAxis_of_owner (paramNat_axis a _) hown, paramNat_one,
      RefState.ofArmingKind_of_gt hk]
  · refine congrArg _ (State.runCommand_ok hrun ?_)
    rw [hps, axisReadBody, State.withAxis_of_read (paramNat_axis a _), AxisUnit.record, RefState.thenIndex_eq]

/-! ### AXIS_SET (R14, R18, R19) -/

@[simp] theorem DecodeMode.ofCode_code (m : DecodeMode) : DecodeMode.ofCode m.code.toNat = some m := by
  cases m <;> rfl

@[simp] theorem Edge.ofCode_code (e : Edge) : Edge.ofCode e.code.toNat = some e := by
  cases e <;> rfl

@[simp] theorem yesNoOf_yesNo (b : Bool) : yesNoOf (yesNo b).toNat = some b := by
  cases b <;> rfl

/-- A configuration read back from the parameters that carry it (section 10.7). -/
theorem configOf_params (a : Axis) {c : AxisConfig} (hF : c.filterLen ≤ Config.maxFilterLen)
    (hM : c.modulus ≤ Config.maxModulus) (hL : c.stallLimit ≤ 65535) : configOf (c.params a) = some c := by
  have hF' : c.filterLen ≤ 32 := hF
  have hM' : c.modulus ≤ 2147483647 := hM
  have hmode : paramNat (c.params a) 1 = c.mode.code.toNat := rfl
  have hreverse : paramNat (c.params a) 2 = (yesNo c.reverse).toNat := rfl
  have hindex : paramNat (c.params a) 14 = c.indexEdge.code.toNat := rfl
  have hhome : paramNat (c.params a) 15 = c.homeEdge.code.toNat := rfl
  have hfilter : paramNat (c.params a) 3 = c.filterLen := Nat.mod_eq_of_lt (by omega)
  have hmodulus : (paramWord (c.params a) 4).toNat = c.modulus :=
    (congrArg BitVec.toNat (word_of_bytes _)).trans (Nat.mod_eq_of_lt (by omega))
  have hstall : (paramHalf (c.params a) 8).toNat = c.stallLimit :=
    (congrArg BitVec.toNat (half_of_bytes _)).trans (Nat.mod_eq_of_lt (by omega))
  have hpreset : paramWord (c.params a) 10 = c.preset := word_of_bytes _
  simp [configOf, hmode, hreverse, hindex, hhome, hfilter, hmodulus, hstall, hpreset]

/-- The check of R18 in the terms of the manual. -/
theorem AxisConfig.inRange_of_bounds {c : AxisConfig} (hF : 1 ≤ c.filterLen ∧ c.filterLen ≤ Config.maxFilterLen)
    (hM : c.modulus ≠ 1 ∧ c.modulus ≤ Config.maxModulus)
    (hP : c.modulus ≠ 0 → 0 ≤ c.preset.toInt ∧ c.preset.toInt < c.modulus) : c.inRange = true := by
  simp only [AxisConfig.inRange, Machine.inRange, decide_eq_true_eq]
  exact ⟨hF.1, hF.2, hM.1, hM.2, or_iff_not_imp_left.mpr hP⟩

/-- An AXIS_SET past every check of R17 and R18 takes its configuration. -/
theorem axisSetBody_ok {p : Port} {s : State} {a : Axis} {c : AxisConfig} {ps : List Byte}
    (ha : paramNat ps 0 = a.val) (hown : s.axisRight a = some p) (hcfg : configOf ps = some c)
    (hrange : c.inRange = true) (huse : c.recountsFrom (s.axis a).config = false ∨ s.armList a = []) :
    axisSetBody p ps s = .ok (s.configureAxis a c) [] := by
  have hfree : ¬(c.recountsFrom (s.axis a).config = true ∧ s.armList a ≠ []) := by
    rintro ⟨hr, hl⟩
    obtain h | h := huse
    · rw [h] at hr
      cases hr
    · exact hl h
  rw [axisSetBody, State.withAxis_of_owner ha hown]
  simp [hcfg, hrange, hfree]

/-- The motion monitor at a change of the stall limit, by the table of R14; on a lawful axis the timer runs exactly
while the axis is MOVING. -/
theorem AxisUnit.changeStall_eq {u : AxisUnit} (h : u.Ok) (n : Nat) :
    u.changeStall n = { u with
      motion :=
        if n = u.config.stallLimit then u.motion
        else if n = 0 then .off
        else if u.motion = .off then .still else u.motion
      stallTimer :=
        if n = u.config.stallLimit then u.stallTimer
        else if n = 0 then .stopped
        else if u.motion = .moving then .running (n * 1000) else .stopped } := by
  by_cases hsame : n = u.config.stallLimit
  · simp [AxisUnit.changeStall, hsame]
  by_cases hzero : n = 0
  · subst hzero
    simp [AxisUnit.changeStall, hsame]
  have hidle : u.motion ≠ .moving → u.stallTimer = .stopped :=
    fun hm => Decidable.byContradiction fun ht => hm (h.timer.mp ht)
  cases hm : u.motion with
  | off => simp [AxisUnit.changeStall, hsame, hzero, hm]
  | still =>
    have ht := hidle (by simp [hm])
    simp only [AxisUnit.changeStall, hsame, hzero, hm, if_false, reduceCtorEq]
    rw [← hm, ← ht]
  | moving => simp [AxisUnit.changeStall, hsame, hzero, hm, Timer.load, Config.ticksPerMs]

/-- Settles O16: the parameters read back as the configuration, the checks of R17 and R18 pass, and on a lawful axis the
new unit is the one stated. -/
theorem axisSetTakesTheConfiguration : Obligations.AxisSetTakesTheConfiguration := by
  intro p s req a c w hrun hps hown hL hF hM hP huse hok hw
  have hcfg : configOf req.params = some c := hps ▸ configOf_params a hF.2 hM.2 hL
  have hfree : c.recountsFrom (s.axis a).config = false ∨ s.armList a = [] :=
    huse.imp_left fun ⟨hmode, hreverse, hmodulus⟩ => by
      simp [AxisConfig.recountsFrom, hmode, hreverse, hmodulus]
  have hnew : (s.axis a).configure c = w := by
    rw [hw, AxisUnit.configure, AxisUnit.changeStall_eq hok]
    rfl
  refine congrArg _ (State.runCommand_ok hrun ?_)
  rw [axisSetBody_ok (hps ▸ paramNat_axis a _) hown hcfg (AxisConfig.inRange_of_bounds hF hM hP) hfree,
    State.configureAxis, hnew]
  simp only [ne_eq, ite_not]

/-! ### The steps of a purge (R24, R66, R108, R129, R144, R157) -/

/-- Port `p`'s purge stands at `g`. -/
def State.markPurge (p : Port) (g : Purge) (s : State) : State :=
  s.setSession p { s.session p with purge := some g }

/-- What the work of a purge step keeps: everything `PurgeAt` speaks of, the session records among it. -/
structure KeptByPurge (s w : State) : Prop where
  sessions : w.sessions = s.sessions
  unreserved : w.unreserved = s.unreserved
  tableEpoch : w.tableEpoch = s.tableEpoch
  tableIn : w.tableIn = s.tableIn
  time : SameTime s w
  axes : SameAxes s w
  links : SameLinks s w
  arbiter : SameArbiter s w

/-- Marking the purge behind work that keeps the rest leaves the purge there and everything else as it was. -/
theorem KeptByPurge.purgeAt {p : Port} {g : Purge} {s w : State} (h : KeptByPurge s w) :
    PurgeAt p g s (w.markPurge p g) := by
  have hsession : ∀ q, w.session q = s.session q := fun q => congrArg (·.get q) h.sessions
  refine ⟨?_, fun q hq => ?_, h.unreserved, h.tableEpoch, h.tableIn, h.time, h.axes, h.links, h.arbiter⟩
  · rw [State.markPurge, State.setSession_session_self, hsession]
  · rw [State.markPurge, State.setSession_session_ne _ _ _ hq, hsession]

namespace State

variable {p : Port} {s : State} {g : Purge}

/-- A due step does its work, then marks the purge. -/
theorem purgeStep_of_due {due : Purge → Bool} {mark : Purge → Purge} {work : State → State}
    (hg : (s.session p).purge = some g) (hd : due g = true) :
    s.purgeStep p due mark work = (work s).markPurge p (mark g) := by
  simp [purgeStep, markPurge, hg, hd]

theorem purgeStep_of_notDue {due : Purge → Bool} {mark : Purge → Purge} {work : State → State}
    (hg : (s.session p).purge = some g) (hd : due g = false) : s.purgeStep p due mark work = s := by
  simp [purgeStep, hg, hd]

theorem exec_tablePurge (hg : (s.session p).purge = some g) (h : g.table = false) :
    exec (.tablePurge p) s = .next ((s.purgeTable p).markPurge p { g with table := true }) :=
  congrArg Host.Outcome.next (purgeStep_of_due hg (by rw [h]; rfl))

theorem exec_linePurge (hg : (s.session p).purge = some g) (ht : g.table = true) (hl : g.lines = false) :
    exec (.linePurge p) s = .next ((s.purgeLines p).markPurge p { g with lines := true }) :=
  congrArg Host.Outcome.next (purgeStep_of_due hg (by rw [ht, hl]; rfl))

/-- The line unit waits for the trigger table (R157). -/
theorem exec_linePurge_beforeTable (hg : (s.session p).purge = some g) (h : g.table = false) :
    exec (.linePurge p) s = .next s :=
  congrArg Host.Outcome.next (purgeStep_of_notDue hg (by rw [h]; rfl))

theorem exec_notePurge (hg : (s.session p).purge = some g) (h : g.notes = false) :
    exec (.notePurge p) s = .next ((s.purgeNotes p).markPurge p { g with notes := true }) :=
  congrArg Host.Outcome.next (purgeStep_of_due hg (by rw [h]; rfl))

theorem exec_viewPurge (hg : (s.session p).purge = some g) (h : g.view = false) :
    exec (.viewPurge p) s = .next ((s.purgeView p).markPurge p { g with view := true }) :=
  congrArg Host.Outcome.next (purgeStep_of_due hg (by rw [h]; rfl))

theorem exec_axisRightsPurge (hg : (s.session p).purge = some g) (h : g.rights = false) :
    exec (.axisRightsPurge p) s = .next ((s.purgeRights p).markPurge p { g with rights := true }) :=
  congrArg Host.Outcome.next (purgeStep_of_due hg (by rw [h]; rfl))

variable (p s)

theorem purgeTable_kept : KeptByPurge s (s.purgeTable p) := by
  constructor <;> simp [purgeTable, SameTime, SameAxes, SameLinks, SameArbiter]

theorem purgeLines_kept : KeptByPurge s (s.purgeLines p) := by
  constructor <;> simp [purgeLines, SameTime, SameAxes, SameLinks, SameArbiter]

theorem purgeNotes_kept : KeptByPurge s (s.purgeNotes p) := by
  constructor <;> simp [purgeNotes, SameTime, SameAxes, SameLinks, SameArbiter]

theorem purgeView_kept : KeptByPurge s (s.purgeView p) := by
  constructor <;> simp [purgeView, SameTime, SameAxes, SameLinks, SameArbiter]

theorem purgeRights_kept : KeptByPurge s (s.purgeRights p) := by
  constructor <;> simp [purgeRights, SameTime, SameAxes, SameLinks, SameArbiter]

/-- The slots the port owned are FREE (R66). -/
theorem purgeTable_slot (n : SlotNo) :
    (s.purgeTable p).slot n = (s.slot n).bind fun u => if u.owner = p then none else some u := by
  have h : (s.purgeTable p).slot n = unlessOwnedBy p (s.slot n) := by simp [purgeTable, slot]
  rw [h]
  cases s.slot n <;> rfl

/-- The arm lists keep the slots of the other ports (R66). -/
theorem purgeTable_armList (a : Axis) :
    (s.purgeTable p).armList a = (s.armList a).filter fun n => (s.slot n).all fun u => u.owner ≠ p := by
  have h : (s.purgeTable p).armList a = (s.armList a).filter fun n => s.ownsSlot p n = false := by
    simp [purgeTable, armList]
  rw [h]
  refine List.filter_congr fun n _ => ?_
  unfold ownsSlot
  cases s.slot n <;> simp

theorem purgeTable_heldBy_self : (s.purgeTable p).heldBy p = 0 := setHeld_heldBy_self _ _ _

theorem purgeTable_heldBy_ne {q : Port} (h : q ≠ p) : (s.purgeTable p).heldBy q = s.heldBy q := by
  rw [purgeTable, setHeld_heldBy_ne _ _ _ h]
  simp only [heldBy]

/-- Lines, notification units, views and rights have their own steps (R157). -/
theorem purgeTable_outside : (s.purgeTable p).lines = s.lines ∧ (s.purgeTable p).notes = s.notes ∧
    (s.purgeTable p).views = s.views ∧ (s.purgeTable p).axisRights = s.axisRights := by
  simp [purgeTable]

/-- The lines the port owned are given up (R108). -/
theorem purgeLines_line (l : LineNo) :
    (s.purgeLines p).line l = if (s.line l).owner = some p then (s.line l).giveUp else s.line l := by
  simp [purgeLines, line]

/-- The rights the port held are given back (R24). -/
theorem purgeRights_axisRight (a : Axis) :
    (s.purgeRights p).axisRight a = if s.axisRight a = some p then none else s.axisRight a := by
  simp [purgeRights, axisRight]

end State

/-- A view just reset, by axis (R131, R140, R144). -/
theorem View.resetAt_get (now : Word) (a : Axis) :
    (View.resetAt now).contexts[a] = ⟨0, false, now, false, false⟩ ∧ (View.resetAt now).masks[a] = 0 := by
  simp [View.resetAt, Context.resetAt]

/-- Settles O41: each due step is its block's work behind a mark on the purge, and the work keeps the rest. -/
theorem purgeStepsGiveBack : Obligations.PurgeStepsGiveBack := by
  intro p s g hg
  refine ⟨fun h => ⟨_, State.exec_tablePurge hg h, (s.purgeTable_kept p).purgeAt, ?_⟩,
    fun ht hl => ⟨_, State.exec_linePurge hg ht hl, (s.purgeLines_kept p).purgeAt, ?_⟩,
    State.exec_linePurge_beforeTable hg,
    fun h => ⟨_, State.exec_notePurge hg h, (s.purgeNotes_kept p).purgeAt, ?_⟩,
    fun h => ⟨_, State.exec_viewPurge hg h, (s.purgeView_kept p).purgeAt, ?_⟩,
    fun h => ⟨_, State.exec_axisRightsPurge hg h, (s.purgeRights_kept p).purgeAt, ?_⟩⟩
  · simp only [State.markPurge, State.setSession_slot, State.setSession_armList, State.setSession_heldBy,
      SameLines, SameNotes, SameViews, SameRights, State.setSession_lines, State.setSession_notes,
      State.setSession_views, State.setSession_axisRights]
    exact ⟨s.purgeTable_slot p, s.purgeTable_armList p, s.purgeTable_heldBy_self p,
      fun q => s.purgeTable_heldBy_ne p, s.purgeTable_outside p⟩
  · exact ⟨s.purgeLines_line p, ⟨rfl, rfl, rfl, rfl, rfl⟩, rfl, rfl, rfl⟩
  · exact ⟨State.setNote_note_self _ _ _, fun q hq => State.setNote_note_ne _ _ _ hq,
      ⟨rfl, rfl, rfl, rfl, rfl⟩, rfl, rfl, rfl⟩
  · refine ⟨fun a => ?_, fun q hq => State.setView_view_ne _ _ _ hq, ⟨rfl, rfl, rfl, rfl, rfl⟩, rfl, rfl, rfl⟩
    rw [State.markPurge, State.setSession_view, State.purgeView, State.setView_view_self]
    exact View.resetAt_get s.tick a
  · exact ⟨s.purgeRights_axisRight p, ⟨rfl, rfl, rfl, rfl, rfl⟩, rfl, rfl, rfl⟩

end Sys2Proof.Machine

/-!
PROOF. The reference family: the edges of the reference inputs (O14) and AXIS_PRESET (O19).
-/

namespace Sys2Proof.Machine

/-! ### Accepted changes of the reference inputs (R26, R27) -/

/-- An accepted change is an edge when it leaves the level the selected direction starts from (R26). -/
theorem Filter.edgeDue_eq_isEdge (F : Nat) (sel : Edge) (f : Filter) : f.edgeDue F sel = f.isEdge F sel := by
  obtain ⟨level, run, candidate, streak, settledNow⟩ := f
  match sel, level with
  | .rising, none | .falling, none | .rising, some true | .falling, some false =>
    simp [Filter.edgeDue, Filter.isEdge]
  | .rising, some false | .falling, some true => simp [Filter.edgeDue, Filter.isEdge, Filter.changeDue]

/-- What the axis does with the reference unit's answer, once the levels are taken. -/
def State.takeRefAction (a : Axis) (makers : Makers) (s : State) : RefAction → State
  | .nothing => s
  | .toWaitIndex => s.setRefState a .waitIndex
  | .take reason next => (s.setRefState a next).edgeReference a reason (s.axis a).config.preset makers

namespace State

variable (s : State) (a : Axis)

@[simp] theorem takeReferenceLevels_axis_self :
    (s.takeReferenceLevels a).axis a = { s.axis a with inputs := { (s.axis a).inputs with
      idx := (s.axis a).inputs.idx.acceptIfDue (s.axis a).config.filterLen
      home := (s.axis a).inputs.home.acceptIfDue (s.axis a).config.filterLen } } := by
  simp [takeReferenceLevels]

/-- The levels taken, the reference state set besides: one step of the axis unit. -/
theorem setRefState_takeReferenceLevels (r : RefState) :
    (s.takeReferenceLevels a).setRefState a r =
      s.setAxis a { (s.takeReferenceLevels a).axis a with refState := r } :=
  setAxis_setAxis _ _ _ _

/-- Setting the reference state to what it is changes nothing. -/
theorem setRefState_of_eq {r : RefState} (h : (s.axis a).refState = r) : s.setRefState a r = s := by
  subst h
  exact setAxis_self _ _

/-- The levels are taken, then what the reference unit answers to the edges. -/
theorem acceptReferences_eq (makers : Makers) :
    s.acceptReferences a makers = (s.takeReferenceLevels a).takeRefAction a makers
      ((s.axis a).refState.onEdges
        ((s.axis a).inputs.home.edgeDue (s.axis a).config.filterLen (s.axis a).config.homeEdge)
        ((s.axis a).inputs.idx.edgeDue (s.axis a).config.filterLen (s.axis a).config.indexEdge)) := by
  unfold acceptReferences
  dsimp only
  split
  next h => rw [h]; rfl
  next h => rw [h, takeRefAction, setRefState_takeReferenceLevels, takeReferenceLevels_axis_self]
  next h => rw [h, takeRefAction, setRefState_takeReferenceLevels, takeReferenceLevels_axis_self]

end State

/-- ACCEPTED_CHANGE of the reference inputs, in the terms of R26 and R27. -/
theorem exec_acceptedChange_references {a : Axis} {makers : Makers} {s : State} {home index : Bool}
    (hdue : (s.axis a).pairDue .references = true)
    (hhome : home = (s.axis a).inputs.home.isEdge (s.axis a).config.filterLen (s.axis a).config.homeEdge)
    (hindex : index = (s.axis a).inputs.idx.isEdge (s.axis a).config.filterLen (s.axis a).config.indexEdge) :
    exec (.acceptedChange a .references makers) s =
      .next ((s.takeReferenceLevels a).takeRefAction a makers ((s.axis a).refState.onEdges home index)) := by
  simp only [exec, execAcceptedChange, hdue, if_true, State.acceptReferences_eq, Filter.edgeDue_eq_isEdge, ← hhome,
    ← hindex]

/-- Settles O14: by the reference state and the edge it watches; EVERY_INDEX stays as it is through its reference. -/
theorem edgesDriveTheReferenceState : Obligations.EdgesDriveTheReferenceState := by
  intro a makers s home index hdue hhome hindex
  rw [exec_acceptedChange_references hdue hhome hindex]
  refine congrArg Host.Outcome.next ?_
  cases hstate : (s.axis a).refState with
  | idle => rfl
  | waitHome thenIndex =>
    cases thenIndex <;> cases home <;> simp [RefState.onEdges, State.takeRefAction]
  | waitIndex => cases index <;> simp [RefState.onEdges, State.takeRefAction]
  | everyIndex =>
    have hkeep : (s.takeReferenceLevels a).setRefState a .everyIndex = s.takeReferenceLevels a :=
      State.setRefState_of_eq _ _ (by simp [hstate])
    cases index <;> simp [RefState.onEdges, State.takeRefAction, hkeep]

/-! ### A reference record at the table (R52, R79, R80) -/

/-- The laws of the table speak of its slots and lists alone. -/
theorem State.TableOk.congr {s t : State} (h : s.TableOk) (hslots : t.slots = s.slots)
    (hlists : t.armLists = s.armLists) : t.TableOk := by
  have hslot : ∀ n, t.slot n = s.slot n := fun n => by simp only [State.slot, hslots]
  have hlist : ∀ a, t.armList a = s.armList a := fun a => by simp only [State.armList, hlists]
  have htarget : ∀ n, t.targetOf n = s.targetOf n := fun n => State.targetOf_congr (hslot n)
  refine ⟨fun a n => ?_, fun a => ?_, fun a => ?_, fun n u hu => ?_⟩
  · rw [hlist, hslot]
    exact h.listed a n
  · rw [hlist]
    exact h.once a
  · simp only [hlist, htarget]
    exact h.sorted a
  · exact h.atOrigin n u (hslot n ▸ hu)

namespace State

variable {s : State}

theorem disarmReports_congr {t : State} (h : t.slots = s.slots) (r : Reference) (q : Port) (l : List SlotNo) :
    t.disarmReports r q l = s.disarmReports r q l := by
  simp only [disarmReports, slot, h]

/-- The table epoch follows the record (R52). -/
@[simp] theorem takeReferenceRecord_epochOf_self (s : State) (r : Reference) :
    (s.takeReferenceRecord r).epochOf r.axis = r.epoch :=
  (foldl_keeps _ (·.epochOf r.axis) (fun u n => dropOne_epochOf u r n r.axis) _ _).trans
    (setEpochOf_epochOf_self _ _ _)

/-- On a lawful table a reference record sends every ARMED DROP slot of its axis to STAGED at its origin, and leaves the
other slots (R79). -/
theorem takeReferenceRecord_slot (h : s.TableOk) (r : Reference) (n : SlotNo) :
    (s.takeReferenceRecord r).slot n = (s.slot n).map fun u =>
      if u.state = .armed ∧ u.axis = r.axis ∧ u.bind = .drop then { u with state := .staged, target := u.origin }
      else u := by
  obtain ⟨hwalk, -, -, -⟩ := foldl_dropOne r r.axis _ (s.setEpochOf r.axis r.epoch) (h.once r.axis)
    fun m => (h.listed r.axis m).mp
  refine (hwalk n).trans ?_
  cases hu : s.slot n with
  | none => simp [hu]
  | some u => simp [hu, h.listed, and_assoc]

/-- The KEEP slots stay in the list, in their order (R79). -/
theorem takeReferenceRecord_armList_self (h : s.TableOk) (r : Reference) :
    (s.takeReferenceRecord r).armList r.axis =
      (s.armList r.axis).filter fun n => (s.slot n).any fun u => u.bind = .keep := by
  obtain ⟨-, -, hwalk, -⟩ := foldl_dropOne r r.axis _ (s.setEpochOf r.axis r.epoch) (h.once r.axis)
    fun m => (h.listed r.axis m).mp
  refine hwalk.trans (List.filter_congr fun n hn => ?_)
  have hlisted : n ∈ s.armList r.axis := hn
  obtain ⟨u, hu, -, -⟩ := (h.listed r.axis n).mp hlisted
  cases hb : u.bind <;> simp [hu, hb, hlisted]

/-- Each port's unit takes the REREF_DISARM notes of its own slots, in list order (R80). -/
theorem takeReferenceRecord_note (h : s.TableOk) (r : Reference) (q : Port) :
    (s.takeReferenceRecord r).note q =
      (s.disarmReports r q (s.armList r.axis)).foldl (fun x y => x.take y) (s.note q) := by
  obtain ⟨-, -, -, hwalk⟩ := foldl_dropOne r r.axis _ (s.setEpochOf r.axis r.epoch) (h.once r.axis)
    fun m => (h.listed r.axis m).mp
  exact hwalk q

end State

/-! ### A command's reference (R29, R51, R186) -/

namespace State

variable (s : State) (a : Axis) (reason : Reason) (v : Word) (makers : Makers)

/-- The record the reference hands to the table (R30). -/
def madeReference : Reference := ⟨a, reason, (s.axis a).position, v, (s.axis a).epoch + 1, s.tick⟩

/-- The part as the table finds it at a command's reference: the axis has moved, the units that hear the axis first have
the REREF note, and the table has taken the axis's records in hand. -/
def referenceAtTable : State :=
  ((s.referenceMoved a reason v).routeIn makers .axis (some (s.rerefReport a reason v))).setInbox a []

/-- A command's reference: the table takes the earlier records, then the new one, and last the note goes to the units
that hear the table first (R51, R186). -/
theorem commandReference_eq :
    s.commandReference a reason v makers =
      (((s.inbox a).foldl takeRecord (s.referenceAtTable a reason v makers)).takeReferenceRecord
        (s.madeReference a reason v)).routeIn makers .table (some (s.rerefReport a reason v)) := by
  rw [commandReference, shareEvent_taken _ _ _ _ _ (.inl rfl), referenceMoved_inbox_self, List.foldl_append]
  rfl

theorem commandReference_axis_self :
    (s.commandReference a reason v makers).axis a =
      { s.axis a with position := v, revolution := 0, epoch := (s.axis a).epoch + 1, doubt := false } := by
  simp [commandReference]

/-- No record of the axis is left on its way (R51). -/
theorem commandReference_inbox_self : (s.commandReference a reason v makers).inbox a = [] := by
  simp [commandReference, shareEvent]

/-- The table has the new epoch within the command (R51, R52). -/
theorem commandReference_epochOf_self :
    (s.commandReference a reason v makers).epochOf a = (s.axis a).epoch + 1 := by
  rw [commandReference_eq, routeIn_epochOf]
  exact takeReferenceRecord_epochOf_self _ (s.madeReference a reason v)

/-- With no earlier record on its way, the table takes the new one alone. -/
theorem commandReference_of_idle (hin : s.inbox a = []) :
    s.commandReference a reason v makers =
      ((s.referenceAtTable a reason v makers).takeReferenceRecord (s.madeReference a reason v)).routeIn makers .table
        (some (s.rerefReport a reason v)) := by
  rw [commandReference_eq, hin, List.foldl_nil]

@[simp] theorem referenceAtTable_slots : (s.referenceAtTable a reason v makers).slots = s.slots := by
  simp [referenceAtTable]

@[simp] theorem referenceAtTable_slot (n : SlotNo) : (s.referenceAtTable a reason v makers).slot n = s.slot n := by
  simp only [slot, referenceAtTable_slots]

@[simp] theorem referenceAtTable_armLists : (s.referenceAtTable a reason v makers).armLists = s.armLists := by
  simp [referenceAtTable]

@[simp] theorem referenceAtTable_armList (b : Axis) :
    (s.referenceAtTable a reason v makers).armList b = s.armList b := by
  simp only [armList, referenceAtTable_armLists]

@[simp] theorem madeReference_axis : (s.madeReference a reason v).axis = a := rfl

/-- The axis unit's step leaves the laws of the table. -/
theorem referenceAtTable_tableOk (hok : s.TableOk) : (s.referenceAtTable a reason v makers).TableOk :=
  hok.congr (s.referenceAtTable_slots a reason v makers) (s.referenceAtTable_armLists a reason v makers)

/-- Every ARMED DROP slot of the axis goes to STAGED within the command (R51, R79). -/
theorem commandReference_slot (hin : s.inbox a = []) (hok : s.TableOk) (n : SlotNo) :
    (s.commandReference a reason v makers).slot n = (s.slot n).map fun u =>
      if u.state = .armed ∧ u.axis = a ∧ u.bind = .drop then { u with state := .staged, target := u.origin }
      else u := by
  rw [s.commandReference_of_idle a reason v makers hin, routeIn_slot,
    takeReferenceRecord_slot (s.referenceAtTable_tableOk a reason v makers hok), referenceAtTable_slot,
    madeReference_axis]

/-- The KEEP slots alone stay in the list (R51, R79). -/
theorem commandReference_armList_self (hin : s.inbox a = []) (hok : s.TableOk) :
    (s.commandReference a reason v makers).armList a =
      (s.armList a).filter fun n => (s.slot n).any fun u => u.bind = .keep := by
  have htable := takeReferenceRecord_armList_self (s.referenceAtTable_tableOk a reason v makers hok)
    (s.madeReference a reason v)
  rw [s.commandReference_of_idle a reason v makers hin, routeIn_armList]
  simpa using htable

/-- The REREF note of a reference for a port that is subscribed to it, as a list of what its unit takes (R32, R141). -/
def rerefNotes (q : Port) : List Report := if s.subscribed q a 2 = true then [s.rerefReport a reason v] else []

/-- Of two rounds of the REREF note, each unit takes the one its order of makers names (R186). -/
theorem routeIn_rerefReport_note {t : State} (hsubscribed : ∀ q, t.subscribed q a 2 = s.subscribed q a 2)
    (first : Maker) (q : Port) :
    (t.routeIn makers first (some (s.rerefReport a reason v))).note q =
      if makers.first q = first then (s.rerefNotes a reason v q).foldl (fun x y => x.take y) (t.note q)
      else t.note q := by
  have hhears : t.hears q (s.rerefReport a reason v).axis (s.rerefReport a reason v).kind = s.subscribed q a 2 :=
    (hears_eq_subscribed t q a .reref 2 rfl).trans (hsubscribed q)
  rw [routeIn_note, hhears]
  by_cases hfirst : makers.first q = first <;> by_cases hsub : s.subscribed q a 2 = true <;>
    simp [hfirst, hsub, rerefNotes]

/-- A subscription hangs on the session and the masks, which no step of a reference touches. -/
theorem referenceAtTable_subscribed (q : Port) (i : Nat) :
    (s.referenceAtTable a reason v makers).subscribed q a i = s.subscribed q a i := by
  simp [subscribed, referenceAtTable]

/-- With no earlier record on its way, each port's unit takes its REREF note and the REREF_DISARM notes of its slots, in
its order of makers (R80, R186). -/
theorem commandReference_note (hin : s.inbox a = []) (hok : s.TableOk) (q : Port) :
    (s.commandReference a reason v makers).note q =
      (match makers.first q with
        | .axis => s.rerefNotes a reason v q ++ s.disarmReports (s.madeReference a reason v) q (s.armList a)
        | .table => s.disarmReports (s.madeReference a reason v) q (s.armList a) ++ s.rerefNotes a reason v q).foldl
        (fun x y => x.take y) (s.note q) := by
  have hearly : (s.referenceAtTable a reason v makers).note q =
      if makers.first q = .axis then (s.rerefNotes a reason v q).foldl (fun x y => x.take y) (s.note q)
      else s.note q := by
    rw [referenceAtTable, setInbox_note,
      s.routeIn_rerefReport_note a reason v makers (fun p => by simp [subscribed]), referenceMoved_note]
  have htable : ((s.referenceAtTable a reason v makers).takeReferenceRecord (s.madeReference a reason v)).note q =
      (s.disarmReports (s.madeReference a reason v) q (s.armList a)).foldl (fun x y => x.take y)
        ((s.referenceAtTable a reason v makers).note q) := by
    rw [takeReferenceRecord_note (s.referenceAtTable_tableOk a reason v makers hok), madeReference_axis,
      referenceAtTable_armList, disarmReports_congr (s.referenceAtTable_slots a reason v makers)]
  have hsubscribed : ∀ p, ((s.referenceAtTable a reason v makers).takeReferenceRecord
      (s.madeReference a reason v)).subscribed p a 2 = s.subscribed p a 2 := fun p => by
    rw [← s.referenceAtTable_subscribed a reason v makers]
    simp [subscribed]
  rw [s.commandReference_of_idle a reason v makers hin, s.routeIn_rerefReport_note a reason v makers hsubscribed,
    htable, hearly]
  cases makers.first q <;> simp

end State

/-- AXIS_PRESET by the owner of the axis: its reference if the value is in the range of the axis, else a refusal
(R29). -/
theorem axisPresetBody_eq {p : Port} {makers : Makers} {s : State} {a : Axis} {v : Word}
    (hown : s.axisRight a = some p) :
    axisPresetBody p makers (byteOf a :: le32 v) s =
      if inRange (s.axis a).config.modulus v = false then .refuse .range
      else .ok (s.commandReference a .preset v makers) (le32 (s.axis a).position ++ le16 ((s.axis a).epoch + 1)) := by
  have hv : paramWord (byteOf a.val :: le32 v) 1 = v := word_of_bytes v
  rw [axisPresetBody, State.withAxis_of_owner (paramNat_axis a _) hown]
  simp only [hv]

/-- MATCH_COUNT_ARRIVAL takes the oldest record of the axis when it is an arrival (R67). -/
theorem exec_matchCountArrival_of_arrival {s : State} {a : Axis} {r : Arrival} {rest : List AxisRecord}
    (h : s.inbox a = .arrival r :: rest) :
    exec (.matchCountArrival a) s = .next ((s.setInbox a rest).takeRecord (.arrival r)) := by
  simp only [exec, execMatchCountArrival, h, State.takeRecord]

/-- REFERENCE_RECORD takes it when it is a reference (R79). -/
theorem exec_referenceRecord_of_reference {s : State} {a : Axis} {r : Reference} {rest : List AxisRecord}
    (h : s.inbox a = .reference r :: rest) :
    exec (.referenceRecord a) s = .next ((s.setInbox a rest).takeRecord (.reference r)) := by
  simp only [exec, execReferenceRecord, h, State.takeRecord]

/-- Settles O19: the body of AXIS_PRESET is a command's reference, which leaves nothing on its way to the table; with
nothing on its way before, it acts on the table as a reference record does on a lawful one. -/
theorem axisPresetTakesAReference : Obligations.AxisPresetTakesAReference := by
  refine ⟨fun p makers s req a v hrun hps hown => ⟨fun hv => ⟨?_, s.commandReference_axis_self a _ v makers,
      s.commandReference_inbox_self a _ v makers, s.commandReference_epochOf_self a _ v makers⟩, fun hm hv => ?_⟩,
    fun makers s t a reason v disarms rerefs hin hok ht hdisarms hrerefs => ?_,
    fun s a rest => ⟨fun r => exec_matchCountArrival_of_arrival, fun r => exec_referenceRecord_of_reference⟩⟩
  · have hin : inRange (s.axis a).config.modulus v = true := by simpa [inRange] using hv
    refine congrArg _ (State.runCommand_ok hrun ?_)
    rw [hps, axisPresetBody_eq hown, hin]
    rfl
  · have hout : inRange (s.axis a).config.modulus v = false := by
      simp only [inRange, decide_eq_false_iff_not]
      omega
    refine congrArg _ (State.runCommand_refuse hrun ?_)
    rw [hps, axisPresetBody_eq hown, if_pos hout]
  · have hd : ∀ q, disarms q = s.disarmReports (s.madeReference a reason v) q (s.armList a) := fun q => by
      rw [hdisarms q]
      refine List.filterMap_congr fun n hn => ?_
      obtain ⟨u, hu, -, hua⟩ := (hok.listed a n).mp hn
      simp only [hu, Trigger.disarmReport, hua]
      rfl
    have hr : ∀ q, rerefs q = s.rerefNotes a reason v q := hrerefs
    rw [ht]
    refine ⟨s.commandReference_slot a reason v makers hin hok,
      s.commandReference_armList_self a reason v makers hin hok, fun q => ?_⟩
    rw [hd, hr]
    exact s.commandReference_note a reason v makers hin hok q

end Sys2Proof.Machine

/-!
PROOF. The family of the trigger table: the placement in an arm list (O26), the six trigger commands (O21 to O25) and
the blocks after a device reset (O3).
-/

namespace Sys2Proof.Machine

/-! ### Placement and removal (R50) -/

/-- Settles O26: a placement splits the sorted list by `placeIn_split`, a removal is a filter. -/
theorem placementGoesBehindEquals : Obligations.PlacementGoesBehindEquals := by
  refine ⟨fun s a n hsorted => ?_, fun s a n => ⟨_, rfl, List.filter_sublist, fun m => by simp⟩⟩
  obtain ⟨l₁, l₂, hlist, hplaced, hbefore, hbehind⟩ := placeIn_split s.targetOf n (s.targetOf n) (s.armList a) hsorted
  exact ⟨l₁, l₂, hlist, by rw [State.place, hplaced], hbefore, hbehind⟩

/-! ### Device reset (R65, R126, R146) -/

/-- The part as DEVICE_RESET leaves it: the reset state but for the queue, the reset itself and what is outside the part
(R146). -/
def State.underReset (source : ResetSource) (s : State) : State :=
  { State.reset with
    pending := s.pending
    inReset := true
    resetCause := if s.inReset then s.resetCause.joined source else causeOf source
    pins := s.pins
    links := ⟨s.links.a.resetKeepingSelect, s.links.b.resetKeepingSelect, s.links.c.resetKeepingSelect⟩ }

theorem exec_deviceReset (source : ResetSource) (s : State) :
    exec (.deviceReset source) s = .next (s.underReset source) := rfl

/-- Every filter is unsettled, with run length 0 (R4, R23). -/
theorem AxisUnit.reset_filter (i : Input) : AxisUnit.reset.inputs.get i = .reset := by cases i <;> rfl

/-- Settles O3: the blocks named are those of `State.reset`. -/
theorem deviceResetOfBlocks : Obligations.DeviceResetOfBlocks := by
  intro source s
  have haxis : ∀ a, (s.underReset source).axis a = .reset := State.reset_axis
  have hline : ∀ l, (s.underReset source).line l = .reset := State.reset_line
  have hview : ∀ p, (s.underReset source).view p = .resetAt 0 := State.reset_view
  refine ⟨_, exec_deviceReset source s, rfl, rfl, fun a => ?_, fun a i => ?_, State.reset_axisRight, State.reset_slot,
    State.reset_armList, State.reset_heldBy, State.reset_epochOf, State.reset_inbox, fun l => ?_, State.reset_note,
    fun p a => ?_⟩
  · rw [haxis]
    rfl
  · rw [haxis, AxisUnit.reset_filter]
    exact ⟨rfl, rfl⟩
  · rw [hline]
    exact ⟨rfl, rfl⟩
  · rw [hview]
    exact View.resetAt_get 0 a

/-! ### Commands that name a slot (R53) -/

/-- The first byte of a slot command's parameters names the slot. -/
@[simp] theorem paramNat_slot (n : SlotNo) (ps : List Byte) : paramNat (byteOf n.val :: ps) 0 = n.val := by
  simp [paramNat, paramByte]

/-- The checks of R53 pass for the owner of a slot. -/
theorem State.withSlot_of_owner {s : State} {p : Port} {n : SlotNo} {t : Trigger} {k : SlotNo → Trigger → Reply}
    (ps : List Byte) (h : s.slot n = some t) (ho : t.owner = p) :
    s.withSlot p (paramNat (byteOf n.val :: ps) 0) k = k n t := by
  simp [State.withSlot, h, ho]

/-- The check of R59 and R75 in the terms of the manual. -/
theorem Trigger.fits_iff (t : Trigger) (modulus : Nat) : t.fits modulus = true ↔ t.InRange modulus := by
  unfold Trigger.fits Trigger.InRange
  cases t.rep with
  | none => simp [or_iff_not_imp_left]
  | some r =>
    simp only [decide_eq_true_eq, Option.some.injEq, forall_eq', or_iff_not_imp_left, and_assoc, ne_eq]
    refine imp_congr_right fun _ => and_congr_right fun _ => and_congr_right fun _ => ?_
    omega

/-! ### TRIG_ARM, TRIG_DISARM and TRIG_DELETE (R59 to R62) -/

/-- TRIG_ARM by the owner of the slot: state, epoch and range, then one arming (R59, R60). -/
theorem trigArmBody_eq {p : Port} {s : State} {n : SlotNo} {t : Trigger} (given : Byte) (epoch : Half)
    (h : s.slot n = some t) (ho : t.owner = p) :
    trigArmBody p (byteOf n.val :: given :: le16 epoch) s =
      if t.state ≠ .staged then .refuse .state
      else if given ≠ 0 ∧ epoch ≠ s.epochOf t.axis then .refuse .epoch
      else if t.fits (s.axis t.axis).config.modulus = false then .refuse .range
      else .ok (s.arm n t) (le32 t.origin ++ le16 (s.epochOf t.axis)) := by
  have hepoch : paramHalf (byteOf n.val :: given :: le16 epoch) 2 = epoch := half_of_bytes epoch
  have hgiven : given.toNat = 0 ↔ given = 0 := BitVec.toNat_inj (y := 0#8)
  rw [trigArmBody, State.withSlot_of_owner _ h ho]
  simp only [paramNat_one, hepoch, ne_eq, hgiven]

/-- Settles O23: each clause meets one branch of `trigArmBody_eq`. -/
theorem trigArmArmsAtTheOrigin : Obligations.TrigArmArmsAtTheOrigin := by
  intro p s req n t given epoch hrun hps hslot hown
  have hbody := (congrArg (trigArmBody p · s) hps).trans (trigArmBody_eq given epoch hslot hown)
  refine ⟨fun hstate => ?_, fun hstate hgiven hepoch => ?_, fun hstate hepoch => ⟨fun hout => ?_, fun hin => ?_⟩⟩
  · refine congrArg _ (State.runCommand_refuse hrun ?_)
    rw [hbody, if_pos hstate]
  · refine congrArg _ (State.runCommand_refuse hrun ?_)
    rw [hbody, if_neg (not_not.mpr hstate), if_pos ⟨hgiven, hepoch⟩]
  all_goals
    have hpast : ¬(given ≠ 0 ∧ epoch ≠ s.epochOf t.axis) := by
      rintro ⟨hgiven, hne⟩
      exact hepoch.elim hgiven hne
  · have hfits : t.fits (s.axis t.axis).config.modulus = false := by
      rwa [← Bool.not_eq_true, Trigger.fits_iff]
    refine congrArg _ (State.runCommand_refuse hrun ?_)
    rw [hbody, if_neg (not_not.mpr hstate), if_neg hpast, if_pos hfits]
  · have hfits := (t.fits_iff _).mpr hin
    refine congrArg _ (State.runCommand_ok hrun ?_)
    rw [hbody, if_neg (not_not.mpr hstate), if_neg hpast, if_neg (by simp [hfits])]
    rfl

namespace NoteUnit

/-- Whether an owed entry names the slot as its source (R43). -/
theorem owes_iff {u : NoteUnit} {n : SlotNo} : u.owes n = true ↔ ∃ e ∈ u.owed, e.report.source = .slot n := by
  simp [owes]

theorem owes_eq_false_iff {u : NoteUnit} {n : SlotNo} : u.owes n = false ↔ ∀ e ∈ u.owed, e.report.source ≠ .slot n := by
  simp [owes]

end NoteUnit

section

variable {p : Port} {s : State} {n : SlotNo} {t : Trigger}

theorem trigDisarmBody_eq (h : s.slot n = some t) (ho : t.owner = p) :
    trigDisarmBody p [byteOf n.val] s =
      if t.state ≠ .armed then .refuse .state else .ok (s.unarm n t .staged) [] := by
  rw [trigDisarmBody, State.withSlot_of_owner _ h ho]

/-- TRIG_DELETE by the owner of a slot in STAGED or ARMED, while an owed entry names it (R43, R62). -/
theorem trigDeleteBody_of_owed (h : s.slot n = some t) (ho : t.owner = p) (hstate : t.state ≠ .retiring)
    (howed : (s.note p).owes n = true) :
    trigDeleteBody p [byteOf n.val] s = .ok (s.unarm n t .retiring) [3, byteOf (s.heldBy p)] := by
  rw [trigDeleteBody, State.withSlot_of_owner _ h ho]
  simp [hstate, State.settleGiveUp, ho, howed, State.unarm, slotStateCode]

/-- The same with no owed entry that names it. -/
theorem trigDeleteBody_of_notOwed (h : s.slot n = some t) (ho : t.owner = p) (hstate : t.state ≠ .retiring)
    (howed : (s.note p).owes n = false) :
    trigDeleteBody p [byteOf n.val] s =
      .ok ((s.unplace t.axis n).freeSlot p n) [0, byteOf (s.heldBy p - 1)] := by
  rw [trigDeleteBody, State.withSlot_of_owner _ h ho]
  simp [hstate, State.settleGiveUp, ho, howed, State.freeSlot, slotStateCode]

theorem trigDeleteBody_of_retiring (h : s.slot n = some t) (ho : t.owner = p) (hstate : t.state = .retiring) :
    trigDeleteBody p [byteOf n.val] s = .refuse .state := by
  rw [trigDeleteBody, State.withSlot_of_owner _ h ho, if_pos hstate]

end

/-- Settles O24: the bodies by the state of the slot and the owner's owed list. -/
theorem trigDisarmAndDelete : Obligations.TrigDisarmAndDelete := by
  intro p s req n t hps hslot hown
  refine ⟨fun hrun => ⟨fun hstate => ?_, fun hstate => ?_⟩,
    fun hrun => ⟨fun hstate => ?_, fun hstate howed => ?_, fun hstate howed => ?_⟩⟩
  · refine congrArg _ (State.runCommand_refuse hrun ?_)
    rw [hps, trigDisarmBody_eq hslot hown, if_pos hstate]
  · refine congrArg _ (State.runCommand_ok hrun ?_)
    rw [hps, trigDisarmBody_eq hslot hown, if_neg (not_not.mpr hstate)]
    rfl
  · refine congrArg _ (State.runCommand_refuse hrun ?_)
    rw [hps, trigDeleteBody_of_retiring hslot hown hstate]
  · refine congrArg _ (State.runCommand_ok hrun ?_)
    rw [hps, trigDeleteBody_of_owed hslot hown hstate (NoteUnit.owes_iff.mpr howed)]
    rfl
  · refine congrArg _ (State.runCommand_ok hrun ?_)
    rw [hps, trigDeleteBody_of_notOwed hslot hown hstate (NoteUnit.owes_eq_false_iff.mpr howed)]
    rfl

/-! ### TRIG_READ and TRIG_LIST (R63, R64) -/

theorem trigReadBody_eq {p : Port} {s : State} {n : SlotNo} {t : Trigger} (h : s.slot n = some t) (ho : t.owner = p) :
    trigReadBody p [byteOf n.val] s = .ok s t.record := by
  rw [trigReadBody, State.withSlot_of_owner _ h ho]

theorem trigListBody_out {s : State} {ps : List Byte} (h : 3 < paramNat ps 0 ∨ 95 < paramNat ps 1) :
    trigListBody ps s = .refuse .range := by
  unfold trigListBody
  split
  next => rfl
  next a ha =>
    have hlow : paramNat ps 0 = a.val := below_eq_some.mp ha
    rw [if_pos (by omega)]

/-- A page of the list of an axis (R64). -/
theorem trigListBody_in {s : State} {ps : List Byte} {a : Axis} (ha : paramNat ps 0 = a.val)
    (hstart : paramNat ps 1 ≤ 95) :
    trigListBody ps s = .ok s ([byteOf (s.armList a).length, byteOf (min 8 ((s.armList a).length - paramNat ps 1))]
      ++ (((s.armList a).drop (paramNat ps 1)).take 8).flatMap s.listEntry) := by
  rw [trigListBody, ha, below_val]
  simp [Nat.not_lt.mpr hstart]

/-- The width of an action that has none, as it is sent (R183). -/
theorem le16_zero : le16 0 = [0, 0] := by decide

/-- Settles O25: the record field by field, by state, job and repeat; the page by `trigListBody_in`. -/
theorem trigReadAndListShowTheTable : Obligations.TrigReadAndListShowTheTable := by
  intro p s req
  refine ⟨fun n t hrun hps hslot hown => ?_, fun a start hrun hps => ⟨fun hout => ?_, fun b hb hstart => ?_⟩⟩
  · refine congrArg _ (State.runCommand_ok hrun ?_)
    rw [hps, trigReadBody_eq hslot hown, Trigger.record]
    congr 6
    · cases t.state <;> rfl
    · obtain _ | ⟨l, act⟩ := t.job
      · rfl
      · cases act with
        | pulse w => rfl
        | set | clear | toggle => exact congrArg (_ :: byteOf l :: ·) le16_zero
    · cases t.rep <;> rfl
    · cases t.successor <;> rfl
  · refine congrArg _ (State.runCommand_refuse hrun ?_)
    rw [hps]
    exact trigListBody_out hout
  · refine congrArg _ (State.runCommand_ok hrun ?_)
    rw [hps]
    exact trigListBody_in hb hstart

/-! ### The consistency checks of TRIG_DEFINE (R55) -/

theorem SlotDir.ofCode_eq_none_iff {n : Nat} : SlotDir.ofCode n = none ↔ 2 < n := by
  match n with
  | 0 | 1 | 2 | n + 3 => simp [SlotDir.ofCode]

theorem yesNoOf_eq_none_iff {n : Nat} : yesNoOf n = none ↔ 1 < n := by
  match n with
  | 0 | 1 | n + 2 => simp [yesNoOf]

theorem Bind.ofCode_eq_none_iff {n : Nat} : Bind.ofCode n = none ↔ 1 < n := by
  match n with
  | 0 | 1 | n + 2 => simp [Bind.ofCode]

/-- A line action has a code from 1 to 4, and a width exactly with PULSE (R40). -/
theorem LineAction.ofCode_eq_none_iff {code width : Nat} :
    LineAction.ofCode code width = none ↔
      code = 0 ∨ 4 < code ∨ (code = 4 ∧ width = 0) ∨ (code ≠ 4 ∧ width ≠ 0) := by
  match code with
  | 0 | 1 | 2 | 3 | 4 | n + 5 => simp [LineAction.ofCode]

theorem unlessMarker_eq_none_iff {n : Nat} : unlessMarker n = none ↔ n = 0xFF := by
  simp [unlessMarker]

/-- Action, line and width disagree. -/
theorem jobOf_eq_none_iff {code line width : Nat} :
    jobOf code (unlessMarker line) width = none ↔
      4 < code ∨ (code = 4 ∧ width = 0) ∨ (code ≠ 4 ∧ width ≠ 0) ∨ (code = 0 ∧ line ≠ 0xFF) ∨
        (code ≠ 0 ∧ line = 0xFF) := by
  by_cases hcode : code = 0
  · subst hcode
    simp [jobOf, unlessMarker_eq_none_iff]
    tauto
  · have hact := LineAction.ofCode_eq_none_iff (code := code) (width := width)
    have hline := unlessMarker_eq_none_iff (n := line)
    unfold jobOf
    rw [if_neg hcode]
    cases ha : LineAction.ofCode code width with
    | none =>
      have := hact.mp ha
      simp only [true_iff]
      omega
    | some act =>
      have hagree := mt hact.mpr (by simp [ha])
      cases hl : unlessMarker line with
      | none => simp [hcode, hline.mp hl]
      | some l =>
        have hgiven := mt hline.mpr (by simp [hl])
        simp only [reduceCtorEq, false_iff]
        omega

/-- The line of a job is the line given. -/
theorem jobOf_line {code width : Nat} {line : Option Nat} {job : Option (Nat × LineAction)}
    (h : jobOf code line width = some job) : job.map Prod.fst = line := by
  unfold jobOf at h
  split at h
  · split at h
    next hnone => cases h; exact hnone.1.symm
    next => cases h
  · split at h
    next => cases h; rfl
    next => cases h

/-- Pitch disagrees with direction or count. -/
theorem repeatOf_eq_none_iff {code total : Nat} {dir : SlotDir} {pitch : Word} (h : SlotDir.ofCode code = some dir) :
    repeatOf dir pitch total = none ↔
      (code = 2 ∧ pitch ≠ 0) ∨ (code = 0 ∧ pitch.toInt < 0) ∨ (code = 1 ∧ 0 < pitch.toInt) ∨
        (pitch = 0 ∧ total ≠ 0) := by
  by_cases hp : pitch = 0#32
  · simp [repeatOf, hp]
  · have hne : pitch.toInt ≠ 0 := mt (toInt_eq_zero_iff pitch).mp hp
    match code with
    | 0 | 1 =>
      cases h
      simp [repeatOf, hp]
      omega
    | 2 =>
      cases h
      simp [repeatOf, hp]
    | n + 3 => cases h

/-- The pitch of a repeat is the pitch given, 0 for none. -/
theorem repeatOf_pitch {dir : SlotDir} {pitch : Word} {total : Nat} {rep : Option Repeat}
    (h : repeatOf dir pitch total = some rep) : rep.map Repeat.pitch = if pitch = 0 then none else some pitch := by
  unfold repeatOf at h
  split at h
  next hp =>
    split at h
    next => cases h; rw [if_pos hp]; rfl
    next => cases h
  next hp =>
    rw [if_neg hp]
    split at h
    case h_1 => cases h
    all_goals
      split at h
      next => cases h; rfl
      next => cases h

/-- R55 refuses a description: a code without a meaning, or fields that disagree. -/
theorem descriptionOf_eq_none_iff {ps : List Byte} :
    descriptionOf ps = none ↔
      2 < paramNat ps 7 ∨ 1 < paramNat ps 19 ∨ 1 < paramNat ps 20 ∨ 1 < paramNat ps 21 ∨
        jobOf (paramNat ps 8) (unlessMarker (paramNat ps 9)) (paramHalf ps 10).toNat = none ∨
        ∃ dir, SlotDir.ofCode (paramNat ps 7) = some dir ∧
          repeatOf dir (paramWord ps 12) (paramHalf ps 16).toNat = none := by
  rw [← SlotDir.ofCode_eq_none_iff, ← yesNoOf_eq_none_iff, ← Bind.ofCode_eq_none_iff, ← yesNoOf_eq_none_iff]
  unfold descriptionOf
  split
  next dir retain bind notify hdir hretain hbind hnotify =>
    simp only [hdir, hretain, hbind, hnotify, reduceCtorEq, false_or, Option.some.injEq, exists_eq_left']
    split
    next hjob hrep => simp [hjob, hrep]
    next h =>
      simp only [true_iff]
      by_contra hall
      simp only [not_or, Option.ne_none_iff_exists'] at hall
      obtain ⟨⟨job, hjob⟩, ⟨rep, hrep⟩⟩ := hall
      exact h job rep hjob hrep
  next h =>
    simp only [true_iff]
    by_contra hall
    simp only [not_or, Option.ne_none_iff_exists'] at hall
    obtain ⟨⟨dir, hdir⟩, ⟨retain, hretain⟩, ⟨bind, hbind⟩, ⟨notify, hnotify⟩, -⟩ := hall
    exact h dir retain bind notify hdir hretain hbind hnotify

/-- The fields of a description R55 lets pass, as the parameters give them. -/
theorem descriptionOf_some {ps : List Byte} {d : Description} (h : descriptionOf ps = some d) :
    d.axis = paramNat ps 0 ∧ d.origin = paramWord ps 3 ∧ d.job.map Prod.fst = unlessMarker (paramNat ps 9) ∧
      d.rep.map Repeat.pitch = (if paramWord ps 12 = 0 then none else some (paramWord ps 12)) ∧
      d.successor = unlessMarker (paramNat ps 18) := by
  unfold descriptionOf at h
  split at h
  next =>
    split at h
    next hjob hrep =>
      cases h
      exact ⟨rfl, rfl, jobOf_line hjob, repeatOf_pitch hrep, rfl⟩
    next => cases h
  next => cases h

/-! ### The range checks of TRIG_DEFINE (R56) -/

theorem below_eq_none_iff {m n : Nat} : below m n = none ↔ m ≤ n := by
  simp [below]

theorem jobInRange_eq_none_iff {job : Option (Nat × LineAction)} :
    jobInRange job = none ↔ ∃ l, job.map Prod.fst = some l ∧ 7 < l := by
  cases job with
  | none => simp [jobInRange]
  | some j => simp [jobInRange, below_eq_none_iff, Nat.succ_le_iff]

theorem successorInRange_eq_none_iff {successor : Option Nat} :
    successorInRange successor = none ↔ ∃ n, successor = some n ∧ 95 < n := by
  cases successor with
  | none => simp [successorInRange]
  | some n => simp [successorInRange, below_eq_none_iff, Nat.succ_le_iff]

/-- Origin or pitch do not suit the axis. -/
theorem Trigger.fits_eq_false_iff (t : Trigger) (modulus : Nat) :
    t.fits modulus = false ↔ modulus ≠ 0 ∧ (t.origin.toInt < 0 ∨ modulus ≤ t.origin.toInt ∨
      ∃ pitch, t.rep.map Repeat.pitch = some pitch ∧ modulus ≤ pitch.toInt.natAbs) := by
  unfold Trigger.fits
  cases t.rep with
  | none => simp [imp_iff_not_or]
  | some r => simp [imp_iff_not_or]

/-- R56 refuses a description: axis, line or successor out of range, or origin or pitch unfit for the axis. -/
theorem Description.toTrigger_eq_none_iff {d : Description} {p : Port} {s : State} :
    d.toTrigger p s = none ↔
      3 < d.axis ∨ (∃ l, d.job.map Prod.fst = some l ∧ 7 < l) ∨ (∃ n, d.successor = some n ∧ 95 < n) ∨
        ∃ a : Axis, d.axis = a.val ∧ (s.axis a).config.modulus ≠ 0 ∧
          (d.origin.toInt < 0 ∨ (s.axis a).config.modulus ≤ d.origin.toInt ∨
            ∃ pitch, d.rep.map Repeat.pitch = some pitch ∧ (s.axis a).config.modulus ≤ pitch.toInt.natAbs) := by
  rw [← Nat.succ_le_iff (m := 3), ← below_eq_none_iff, ← jobInRange_eq_none_iff, ← successorInRange_eq_none_iff]
  unfold Description.toTrigger
  split
  next a job successor ha hjob hsucc =>
    have haxis : ∀ b : Axis, d.axis = b.val ↔ b = a := fun b => by
      rw [below_eq_some.mp ha, Fin.val_inj, eq_comm]
    simp only [ha, hjob, hsucc, reduceCtorEq, false_or, haxis, exists_eq_left]
    simp only [ite_eq_right_iff, reduceCtorEq, imp_false, Bool.not_eq_true]
    exact Trigger.fits_eq_false_iff _ _
  next h =>
    simp only [true_iff]
    by_contra hall
    simp only [not_or, Option.ne_none_iff_exists'] at hall
    obtain ⟨⟨a, ha⟩, ⟨job, hjob⟩, ⟨successor, hsucc⟩, -⟩ := hall
    exact h a job successor ha hjob hsucc

theorem unlessMarker_eq_some_iff {n l : Nat} : unlessMarker n = some l ↔ n ≠ 0xFF ∧ n = l := by
  simp [unlessMarker]

/-! ### TRIG_DEFINE check by check (R55 to R57) -/

/-- A trigger that acts on a line its owner does not hold. -/
theorem State.lineClaimed_eq_false_iff {s : State} {t : Trigger} :
    s.lineClaimed t = false ↔ ∃ j, t.job = some j ∧ (s.line j.line).owner ≠ some t.owner := by
  unfold State.lineClaimed
  cases t.job <;> simp

/-- The lowest-numbered FREE slot (R57). -/
theorem State.lowestFree_eq_some {s : State} {n : SlotNo} (hfree : s.slot n = none)
    (hbelow : ∀ m, m < n → s.slot m ≠ none) : s.lowestFree = some n := by
  rw [State.lowestFree, allSlots, ← Fin.find?_eq_find?_finRange, Fin.find?_eq_some_iff]
  refine ⟨by simp [hfree], fun m hm => ?_⟩
  simpa [Option.isSome_iff_ne_none] using hbelow m hm

section

variable {p : Port} {ps : List Byte} {s : State} {d : Description} {t : Trigger}

theorem trigDefineBody_badArg (hd : descriptionOf ps = none) : trigDefineBody p ps s = .refuse .badArg := by
  simp [trigDefineBody, hd]

theorem trigDefineBody_range (hd : descriptionOf ps = some d) (ht : d.toTrigger p s = none) :
    trigDefineBody p ps s = .refuse .range := by
  simp [trigDefineBody, hd, ht]

theorem trigDefineBody_notClaimed (hd : descriptionOf ps = some d) (ht : d.toTrigger p s = some t)
    (hline : s.lineClaimed t = false) : trigDefineBody p ps s = .refuse .notClaimed := by
  simp [trigDefineBody, hd, ht, hline]

theorem trigDefineBody_noRoom (hd : descriptionOf ps = some d) (ht : d.toTrigger p s = some t)
    (hline : s.lineClaimed t = true) (hfull : (s.session p).quota ≤ s.heldBy p ∨ s.lowestFree = none) :
    trigDefineBody p ps s = .refuse .noRoom := by
  by_cases hquota : (s.session p).quota ≤ s.heldBy p
  · simp [trigDefineBody, hd, ht, hline, hquota]
  · simp [trigDefineBody, hd, ht, hline, hquota, hfull.resolve_left hquota]

theorem trigDefineBody_ok {n : SlotNo} (hd : descriptionOf ps = some d) (ht : d.toTrigger p s = some t)
    (hline : s.lineClaimed t = true) (hroom : s.heldBy p < (s.session p).quota) (hfree : s.lowestFree = some n) :
    trigDefineBody p ps s =
      .ok ((s.setSlot n (some t)).setHeld p (s.heldBy p + 1)) [byteOf n, byteOf (s.heldBy p + 1)] := by
  simp [trigDefineBody, hd, ht, hline, hroom, hfree]

end

/-- R55, field by field. -/
theorem descriptionOf_eq_none_iff_fields {ps : List Byte} :
    descriptionOf ps = none ↔
      2 < paramNat ps 7 ∨ 4 < paramNat ps 8 ∨ 1 < paramNat ps 19 ∨ 1 < paramNat ps 20 ∨ 1 < paramNat ps 21 ∨
      (paramNat ps 7 = 2 ∧ paramWord ps 12 ≠ 0) ∨ (paramNat ps 7 = 0 ∧ (paramWord ps 12).toInt < 0) ∨
      (paramNat ps 7 = 1 ∧ 0 < (paramWord ps 12).toInt) ∨
      (paramNat ps 8 = 4 ∧ (paramHalf ps 10).toNat = 0) ∨ (paramNat ps 8 ≠ 4 ∧ (paramHalf ps 10).toNat ≠ 0) ∨
      (paramNat ps 8 = 0 ∧ paramNat ps 9 ≠ 0xFF) ∨ (paramNat ps 8 ≠ 0 ∧ paramNat ps 9 = 0xFF) ∨
      (paramWord ps 12 = 0 ∧ (paramHalf ps 16).toNat ≠ 0) := by
  rw [descriptionOf_eq_none_iff, jobOf_eq_none_iff]
  cases hdir : SlotDir.ofCode (paramNat ps 7) with
  | none =>
    have hcode := SlotDir.ofCode_eq_none_iff.mp hdir
    exact ⟨fun _ => .inl hcode, fun _ => .inl hcode⟩
  | some dir =>
    simp only [Option.some.injEq, exists_eq_left', repeatOf_eq_none_iff hdir]
    exact iff_of_eq (by ac_rfl)

/-- R56, field by field, on a description R55 lets pass. -/
theorem toTrigger_eq_none_iff_fields {ps : List Byte} {d : Description} {p : Port} {s : State}
    (hd : descriptionOf ps = some d) :
    d.toTrigger p s = none ↔
      3 < paramNat ps 0 ∨ (paramNat ps 9 ≠ 0xFF ∧ 7 < paramNat ps 9) ∨
      (paramNat ps 18 ≠ 0xFF ∧ 95 < paramNat ps 18) ∨
      ∃ a : Axis, paramNat ps 0 = a.val ∧ (s.axis a).config.modulus ≠ 0 ∧
        ((paramWord ps 3).toInt < 0 ∨ (s.axis a).config.modulus ≤ (paramWord ps 3).toInt ∨
          (paramWord ps 12 ≠ 0 ∧ (s.axis a).config.modulus ≤ (paramWord ps 12).toInt.natAbs)) := by
  obtain ⟨haxis, horigin, hline, hpitch, hsucc⟩ := descriptionOf_some hd
  have hmarked : ∀ n m, (∃ l, unlessMarker n = some l ∧ m < l) ↔ n ≠ 0xFF ∧ m < n := fun n m => by
    simp [unlessMarker_eq_some_iff]
  have hpitched : ∀ m : Nat, (∃ w, (if paramWord ps 12 = 0 then none else some (paramWord ps 12)) = some w ∧
      m ≤ w.toInt.natAbs) ↔ paramWord ps 12 ≠ 0 ∧ m ≤ (paramWord ps 12).toInt.natAbs := fun m => by
    by_cases h : paramWord ps 12 = 0#32 <;> simp [h]
  rw [Description.toTrigger_eq_none_iff, haxis, horigin, hline, hpitch, hsucc]
  simp only [hmarked, hpitched]

/-- Settles O22: the two lists of checks field by field, and past them no refusal but those of R57. -/
theorem trigDefineRefusesInOrder : Obligations.TrigDefineRefusesInOrder := by
  intro p s req dir act line width total succ pitch origin bad out hrun hdir hact hline hwidth hpitch htotal hsucc
    horigin hbad hout
  subst hdir hact hline hwidth hpitch htotal hsucc horigin hbad hout
  rw [← descriptionOf_eq_none_iff_fields]
  refine ⟨fun hd => congrArg _ (State.runCommand_refuse hrun (trigDefineBody_badArg hd)), ?_⟩
  cases hd : descriptionOf req.params with
  | none => simp
  | some d =>
    rw [← toTrigger_eq_none_iff_fields hd (p := p)]
    refine ⟨fun _ ht => congrArg _ (State.runCommand_refuse hrun (trigDefineBody_range hd ht)), fun _ hin => ?_⟩
    obtain ⟨t, ht⟩ := Option.ne_none_iff_exists'.mp hin
    cases hclaimed : s.lineClaimed t with
    | false => exact .inl (congrArg _ (State.runCommand_refuse hrun (trigDefineBody_notClaimed hd ht hclaimed)))
    | true =>
      by_cases hfull : (s.session p).quota ≤ s.heldBy p ∨ s.lowestFree = none
      · exact .inr (.inl (congrArg _ (State.runCommand_refuse hrun (trigDefineBody_noRoom hd ht hclaimed hfull))))
      · obtain ⟨hroom, hsome⟩ := not_or.mp hfull
        obtain ⟨n, hn⟩ := Option.ne_none_iff_exists'.mp hsome
        exact .inr (.inr ⟨_, _, congrArg _ (State.runCommand_ok hrun
          (trigDefineBody_ok hd ht hclaimed (not_le.mp hroom) hn))⟩)

/-! ### A description read back from its parameters (section 10.7) -/

/-- The description that a trigger's parameters carry. -/
def Trigger.description (t : Trigger) : Description where
  axis := t.axis
  tag := t.tag
  origin := t.origin
  dir := t.dir
  job := t.job.map fun j => (j.line.val, j.act)
  rep := t.rep
  successor := t.successor.map (·.val)
  retain := t.retain
  bind := t.bind
  notify := t.notify

@[simp] theorem SlotDir.ofCode_code (d : SlotDir) : SlotDir.ofCode d.code.toNat = some d := by cases d <;> rfl

@[simp] theorem Bind.ofCode_code (b : Bind) : Bind.ofCode b.code.toNat = some b := by cases b <;> rfl

/-- A line action read back from its code and its width. -/
theorem LineAction.ofCode_code {act : LineAction} (h : ∀ w, act = .pulse w → 1 ≤ w ∧ w ≤ 65535) :
    LineAction.ofCode act.code.toNat (BitVec.ofNat 16 act.width).toNat = some act := by
  cases act with
  | set | clear | toggle => rfl
  | pulse w =>
    obtain ⟨hlow, hhigh⟩ := h w rfl
    have hw : (BitVec.ofNat 16 w).toNat = w := Nat.mod_eq_of_lt (by omega)
    have hcode : (LineAction.pulse w).code.toNat = 4 := rfl
    rw [LineAction.width, hw, hcode]
    exact if_neg (by omega)

theorem jobOf_of_action {code line width : Nat} {act : LineAction} (h : LineAction.ofCode code width = some act) :
    jobOf code (some line) width = some (some (line, act)) := by
  have hcode : code ≠ 0 := by
    rintro rfl
    cases h
  simp [jobOf, hcode, h]

theorem unlessMarker_of_lt {n : Nat} (h : n < 0xFF) : unlessMarker n = some n :=
  unlessMarker_eq_some_iff.mpr ⟨by omega, rfl⟩

/-- A repeat read back: a pitch with the sign of the direction, no fire counted yet. -/
theorem repeatOf_of_agrees {dir : SlotDir} {r : Repeat} (hfresh : r.firesLeft = r.firesTotal)
    (hdir : (dir = .up ∧ 0 < r.pitch.toInt) ∨ (dir = .down ∧ r.pitch.toInt < 0)) :
    repeatOf dir r.pitch r.firesTotal = some (some r) := by
  have hr : (⟨r.pitch, r.firesTotal, r.firesTotal⟩ : Repeat) = r := congrArg (Repeat.mk _ _) hfresh.symm
  have hpitch : r.pitch ≠ 0 := by
    rw [ne_eq, ← toInt_eq_zero_iff]
    omega
  obtain ⟨rfl, hsign⟩ | ⟨rfl, hsign⟩ := hdir <;> simp only [repeatOf, hpitch, hsign, hr, if_true, if_false]

namespace Trigger

variable {t : Trigger}

/-- Axis, tag, origin and direction, where TRIG_DEFINE finds them. -/
theorem params_head (t : Trigger) : paramNat t.params 0 = t.axis.val ∧ paramHalf t.params 1 = t.tag ∧
    paramWord t.params 3 = t.origin ∧ paramNat t.params 7 = t.dir.code.toNat :=
  ⟨toNat_byteOf_axis t.axis, half_of_bytes t.tag, word_of_bytes t.origin, rfl⟩

theorem half_of_zeros : ((0 : Byte) ++ (0 : Byte) : Half) = 0 := by decide

theorem word_of_zeros : ((0 : Byte) ++ (0 : Byte) ++ (0 : Byte) ++ (0 : Byte) : Word) = 0 := by decide

theorem params_job_none (h : t.job = none) :
    paramNat t.params 8 = 0 ∧ paramNat t.params 9 = 0xFF ∧ (paramHalf t.params 10).toNat = 0 := by
  simp only [params, h]
  exact ⟨rfl, rfl, congrArg BitVec.toNat half_of_zeros⟩

theorem params_job_some {j : LineJob} (h : t.job = some j) : paramNat t.params 8 = j.act.code.toNat ∧
    paramNat t.params 9 = j.line.val ∧ paramHalf t.params 10 = BitVec.ofNat 16 j.act.width := by
  simp only [params, h]
  exact ⟨rfl, toNat_byteOf_line j.line, half_of_bytes _⟩

theorem params_rep_none (h : t.rep = none) : paramWord t.params 12 = 0 ∧ (paramHalf t.params 16).toNat = 0 := by
  simp only [params, h]
  cases t.job <;> exact ⟨word_of_zeros, congrArg BitVec.toNat half_of_zeros⟩

theorem params_rep_some {r : Repeat} (h : t.rep = some r) : paramWord t.params 12 = r.pitch ∧
    paramHalf t.params 16 = BitVec.ofNat 16 r.firesTotal := by
  simp only [params, h]
  cases t.job <;> exact ⟨word_of_bytes _, half_of_bytes _⟩

/-- The bytes behind the repeat. -/
theorem params_tail (t : Trigger) : unlessMarker (paramNat t.params 18) = t.successor.map (·.val) ∧
    paramNat t.params 19 = (yesNo t.retain).toNat ∧ paramNat t.params 20 = t.bind.code.toNat ∧
    paramNat t.params 21 = (yesNo t.notify).toNat := by
  have hsucc : unlessMarker (match t.successor with
      | some n => byteOf n.val
      | none => 0xFF).toNat = t.successor.map (·.val) := by
    cases t.successor with
    | none => rfl
    | some n => simpa using unlessMarker_of_lt (by omega)
  simp only [params]
  cases t.job <;> cases t.rep <;> exact ⟨hsucc, rfl, rfl, rfl⟩

/-- Action, line and width of a trigger, read back from its parameters. -/
theorem jobOf_params (h : ∀ j w, t.job = some j → j.act = .pulse w → 1 ≤ w ∧ w ≤ 65535) :
    jobOf (paramNat t.params 8) (unlessMarker (paramNat t.params 9)) (paramHalf t.params 10).toNat =
      some t.description.job := by
  cases hj : t.job with
  | none =>
    obtain ⟨hact, hline, hwidth⟩ := params_job_none hj
    rw [hact, hline, hwidth, description, hj]
    rfl
  | some j =>
    obtain ⟨hact, hline, hwidth⟩ := params_job_some hj
    rw [hact, hline, hwidth, unlessMarker_of_lt (by omega),
      jobOf_of_action (LineAction.ofCode_code fun w => h j w hj), description, hj]
    rfl

/-- Pitch and count of a trigger, read back from its parameters. -/
theorem repeatOf_params (hagree : t.Agrees) (hfresh : ∀ r, t.rep = some r → r.firesLeft = r.firesTotal) :
    repeatOf t.dir (paramWord t.params 12) (paramHalf t.params 16).toNat = some t.rep := by
  cases hr : t.rep with
  | none =>
    obtain ⟨hpitch, htotal⟩ := params_rep_none hr
    rw [hpitch, htotal]
    rfl
  | some r =>
    obtain ⟨hpitch, htotal⟩ := params_rep_some hr
    obtain ⟨hmax, -, hdir⟩ := hagree.2 r hr
    have hcount : (BitVec.ofNat 16 r.firesTotal).toNat = r.firesTotal := Nat.mod_eq_of_lt (by omega)
    rw [hpitch, htotal, hcount, repeatOf_of_agrees (hfresh r hr) hdir]

/-- TRIG_DEFINE reads an agreeing trigger's description from its parameters (R55). -/
theorem descriptionOf_params (hagree : t.Agrees) (hfresh : ∀ r, t.rep = some r → r.firesLeft = r.firesTotal) :
    descriptionOf t.params = some t.description := by
  obtain ⟨haxis, htag, horigin, hdir⟩ := t.params_head
  obtain ⟨hsucc, hretain, hbind, hnotify⟩ := t.params_tail
  simp only [descriptionOf, hdir, hretain, hbind, hnotify, SlotDir.ofCode_code, Bind.ofCode_code, yesNoOf_yesNo,
    jobOf_params hagree.1, repeatOf_params hagree hfresh, haxis, htag, horigin, hsucc]
  rfl

theorem staged_self (hstate : t.state = .staged) (htarget : t.target = t.origin) :
    { t with state := .staged, target := t.origin } = t := by
  cases t
  cases hstate
  cases htarget
  rfl

/-- The description of a STAGED trigger in range gives that trigger back (R56, R57). -/
theorem toTrigger_description {s : State} (hin : t.InRange (s.axis t.axis).config.modulus)
    (hstate : t.state = .staged) (htarget : t.target = t.origin) : t.description.toTrigger t.owner s = some t := by
  have hjob : jobInRange t.description.job = some t.job := by
    unfold description
    cases t.job <;> simp [jobInRange]
  have hsucc : successorInRange t.description.successor = some t.successor := by
    unfold description
    cases t.successor <;> simp [successorInRange]
  have haxis : below 4 t.description.axis = some t.axis := below_val t.axis
  unfold Description.toTrigger
  rw [haxis, hjob, hsucc]
  change (if ({ t with state := .staged, target := t.origin } : Trigger).fits (s.axis t.axis).config.modulus then
    some { t with state := .staged, target := t.origin } else none) = some t
  rw [staged_self hstate htarget, if_pos ((t.fits_iff _).mpr hin)]

end Trigger

/-- Settles O21: the parameters read back as the trigger, which then meets the checks of R57. -/
theorem trigDefineFillsTheLowestFreeSlot : Obligations.TrigDefineFillsTheLowestFreeSlot := by
  intro p s req t hrun hps hagree hin hstate howner htarget hfresh
  have hd : descriptionOf req.params = some t.description := hps ▸ t.descriptionOf_params hagree hfresh
  have ht : t.description.toTrigger p s = some t := howner ▸ t.toTrigger_description hin hstate htarget
  refine ⟨fun hline => ?_, fun hline => ?_⟩
  · refine congrArg _ (State.runCommand_refuse hrun (trigDefineBody_notClaimed hd ht ?_))
    rwa [State.lineClaimed_eq_false_iff, howner]
  · have hclaimed : s.lineClaimed t = true := by
      rw [← Bool.not_eq_false, State.lineClaimed_eq_false_iff, howner]
      rintro ⟨j, hj, hne⟩
      exact hne (hline j hj)
    refine ⟨fun hfull => ?_, fun hroom n hfree hbelow => ?_⟩
    · exact congrArg _ (State.runCommand_refuse hrun (trigDefineBody_noRoom hd ht hclaimed (.inl hfull.ge)))
    · exact congrArg _ (State.runCommand_ok hrun
        (trigDefineBody_ok hd ht hclaimed hroom (State.lowestFree_eq_some hfree hbelow)))

end Sys2Proof.Machine

/-!
PROOF. The firing family: the records the table takes (O27, O31) and one fire, by its line and its reports (O28), its own
slot (O29) and its successor (O30).
-/

namespace Sys2Proof.Machine

/-! ### The matched set (R67, R68) -/

/-- A slot waiting for UP or DOWN is matched by its own direction, one waiting for EITHER by both (R68). -/
theorem SlotDir.matchedBy_iff (d : SlotDir) (c : CountDir) :
    d.matchedBy c = true ↔ d = .either ∨ (d = .up ∧ c = .up) ∨ (d = .down ∧ c = .down) := by
  cases d <;> cases c <;> simp [SlotDir.matchedBy]

/-- A slot waits for an arrival at its target in a direction that matches (R67). -/
theorem State.waitsFor_eq_any (s : State) (r : Arrival) (n : SlotNo) :
    s.waitsFor r n = (s.slot n).any fun t => t.target = r.position ∧
      (t.dir = .either ∨ (t.dir = .up ∧ r.dir = .up) ∨ (t.dir = .down ∧ r.dir = .down)) := by
  unfold State.waitsFor
  cases s.slot n with
  | none => rfl
  | some t => simp only [SlotDir.matchedBy_iff, Option.any_some]

/-- Settles O27: the arrival is taken by firing the matched set, which the list and the records of the slots fix. -/
theorem matchedSlotsFireInListOrder : Obligations.MatchedSlotsFireInListOrder := by
  intro a s r rest hin hra
  have hset : (s.setInbox a rest).matchedSet r = (s.armList a).filter fun n =>
      (s.slot n).any fun t => t.target = r.position ∧
        (t.dir = .either ∨ (t.dir = .up ∧ r.dir = .up) ∨ (t.dir = .down ∧ r.dir = .down)) := by
    rw [State.matchedSet, hra, State.setInbox_armList]
    exact List.filter_congr fun n _ => by rw [State.waitsFor_eq_any, State.setInbox_slot]
  rw [exec_matchCountArrival_of_arrival hin, State.takeRecord, State.takeArrival, hset]

/-! ### A reference record, but for the slots of its axis (R52, R79) -/

namespace State

variable (s : State)

@[simp] theorem takeReferenceRecord_held (r : Reference) : (s.takeReferenceRecord r).held = s.held :=
  (foldl_keeps _ (·.held) (fun u n => dropOne_held u r n) _ _).trans (setEpochOf_held s _ _)

@[simp] theorem takeReferenceRecord_lines (r : Reference) : (s.takeReferenceRecord r).lines = s.lines :=
  (foldl_keeps _ (·.lines) (fun u n => dropOne_lines u r n) _ _).trans (setEpochOf_lines s _ _)

theorem takeReferenceRecord_epochOf_ne (r : Reference) {b : Axis} (h : b ≠ r.axis) :
    (s.takeReferenceRecord r).epochOf b = s.epochOf b :=
  (foldl_keeps _ (·.epochOf b) (fun u n => dropOne_epochOf u r n b) _ _).trans (setEpochOf_epochOf_ne _ _ _ h)

variable {s}

/-- The lists of the other axes stay (R79). -/
theorem takeReferenceRecord_armList_ne (h : s.TableOk) (r : Reference) {b : Axis} (hb : b ≠ r.axis) :
    (s.takeReferenceRecord r).armList b = s.armList b := by
  obtain ⟨-, hwalk, -, -⟩ := foldl_dropOne r r.axis _ (s.setEpochOf r.axis r.epoch) (h.once r.axis)
    fun m => (h.listed r.axis m).mp
  exact hwalk b hb

/-- The listed slots are of the axis, so their reports carry its number (R80). -/
theorem disarmReports_armList (h : s.TableOk) (r : Reference) (a : Axis) (p : Port) :
    s.disarmReports r p (s.armList a) = (s.armList a).filterMap fun n =>
      match s.slot n with
      | some u =>
        if u.bind = .drop ∧ u.owner = p then
          some (⟨.rerefDisarm, .slot n, some u.tag, a, r.newPosition, r.tick, r.epoch, .none⟩ : Report)
        else none
      | none => none := by
  refine List.filterMap_congr fun n hn => ?_
  obtain ⟨u, hu, -, hua⟩ := (h.listed a n).mp hn
  simp only [hu, Trigger.disarmReport, hua]

end State

/-- Settles O31: the record leaves the others to come, and the table takes it as a reference record of a lawful table. -/
theorem referenceRecordDisarmsDropSlots : Obligations.ReferenceRecordDisarmsDropSlots := by
  intro a s r rest hin hra hok
  subst hra
  have htable : (s.setInbox r.axis rest).TableOk := hok.congr (State.setInbox_slots ..) (State.setInbox_armLists ..)
  refine ⟨(s.setInbox r.axis rest).takeReferenceRecord r, exec_referenceRecord_of_reference hin, by simp, by simp,
    fun b hb => ⟨?_, ?_, ?_⟩, State.takeReferenceRecord_slot htable r, State.takeReferenceRecord_armList_self htable r,
    fun p => ?_, by simp, ?_⟩
  · rw [State.takeReferenceRecord_inbox, State.setInbox_inbox_ne _ _ _ hb]
  · rw [State.takeReferenceRecord_epochOf_ne _ r hb, State.setInbox_epochOf]
  · rw [State.takeReferenceRecord_armList_ne htable r hb, State.setInbox_armList]
  · have hnotes := State.takeReferenceRecord_note htable r p
    rw [State.disarmReports_congr (State.setInbox_slots ..), State.setInbox_armList, State.setInbox_note,
      State.disarmReports_armList hok] at hnotes
    exact hnotes
  · simp [SameTime, SameAxes, SameLines, SameViews, SameSessions, SameRights, SameLinks, SameArbiter]

/-! ### Step 3 by the count of fires (R72 to R74) -/

namespace Trigger

variable {t : Trigger} {rep : Repeat}

theorem countFire_of_finishing (h : t.finishing = true) : t.countFire = .finishes t.counted.rep := by
  unfold countFire counted
  unfold finishing at h
  cases hrep : t.rep with
  | none => rfl
  | some x =>
    obtain ⟨htotal, hleft⟩ : x.firesTotal ≠ 0 ∧ x.firesLeft ≤ 1 := by simpa [hrep] using h
    simp [htotal, hleft]

theorem countFire_of_repeating (h : t.rep = some rep) (hmore : rep.firesTotal = 0 ∨ 2 ≤ rep.firesLeft) :
    t.countFire = .repeats rep.pitch
      { rep with firesLeft := if rep.firesTotal = 0 then rep.firesLeft else rep.firesLeft - 1 } := by
  obtain ⟨pitch, total, left⟩ := rep
  by_cases htotal : total = 0
  · simp [countFire, h, htotal]
  · have hleft : ¬left ≤ 1 := by
      simp only at hmore
      omega
    simp [countFire, h, htotal, hleft]

/-- A slot that does not finish has a pitch and fires left (R72). -/
theorem exists_rep_of_not_finishing (h : ¬t.finishing = true) :
    ∃ rep, t.rep = some rep ∧ (rep.firesTotal = 0 ∨ 2 ≤ rep.firesLeft) := by
  unfold finishing at h
  cases hrep : t.rep with
  | none => simp [hrep] at h
  | some x =>
    have hx : ¬(x.firesTotal ≠ 0 ∧ x.firesLeft ≤ 1) := by simpa [hrep] using h
    exact ⟨x, rfl, by omega⟩

theorem not_finishing_of_repeating (h : t.rep = some rep) (hmore : rep.firesTotal = 0 ∨ 2 ≤ rep.firesLeft) :
    ¬t.finishing = true := by
  simp only [finishing, h, decide_eq_true_eq]
  omega

/-- The record step 3 leaves of a slot that finishes; one with retain no stands RETIRING until the close of the fire
(R74). -/
def finished (t : Trigger) : Trigger :=
  { t.counted with state := if t.retain then .staged else .retiring, target := t.origin }

/-- The record step 3 leaves of a slot that repeats (R73). -/
def repeated (t : Trigger) (modulus : Nat) (rep : Repeat) : Trigger :=
  { t with
    target := nextTarget modulus t.target rep.pitch
    rep := some { rep with firesLeft := if rep.firesTotal = 0 then rep.firesLeft else rep.firesLeft - 1 } }

/-- An arming counts the fires from the start, however many were left (R42). -/
theorem armedAtOrigin_finished (t : Trigger) : t.finished.armedAtOrigin = t.armedAtOrigin := by
  unfold finished counted armedAtOrigin
  cases t.rep <;> rfl

/-- Origin and pitch are not changed by a fire. -/
theorem fits_finished (t : Trigger) (modulus : Nat) : t.finished.fits modulus = t.fits modulus := by
  unfold finished counted fits
  cases t.rep <;> rfl

theorem finished_state_eq_staged_iff (t : Trigger) : t.finished.state = .staged ↔ t.retain = true := by
  unfold finished
  cases t.retain <;> simp

end Trigger

/-- On a modular axis the next target is target plus pitch, taken into the range (R73). -/
theorem nextTarget_toInt {modulus : Nat} {target pitch : Word} (h : modulus ≠ 0) (hmax : modulus ≤ 2147483647)
    (hlow : 0 ≤ target.toInt) (hhigh : target.toInt < modulus) (hpitch : pitch.toInt.natAbs < modulus) :
    (nextTarget modulus target pitch).toInt = (target.toInt + pitch.toInt) % modulus := by
  simp only [nextTarget, if_neg h]
  split
  · next hover =>
    rw [toInt_ofInt_of_mem _ (by omega) (by omega), ← Int.sub_emod_right, Int.emod_eq_of_lt (by omega) (by omega)]
  · next hover =>
    split
    · next hunder =>
      rw [toInt_ofInt_of_mem _ (by omega) (by omega), ← Int.add_emod_right, Int.emod_eq_of_lt (by omega) (by omega)]
    · next hunder => rw [toInt_ofInt_of_mem _ (by omega) (by omega), Int.emod_eq_of_lt (by omega) (by omega)]

/-! ### Entering an arm list (R48 to R50) -/

/-- An entry of a list that is cut in two stands in the first part or in the second. -/
theorem append_cons_eq_append {α : Type} {n : α} {l₁ l₂ m₁ m₂ : List α} (h : l₁ ++ n :: l₂ = m₁ ++ m₂) :
    (∃ c, m₁ = l₁ ++ n :: c ∧ l₂ = c ++ m₂) ∨ ∃ c, l₁ = m₁ ++ c ∧ m₂ = c ++ n :: l₂ := by
  rcases List.append_eq_append_iff.mp h with ⟨c, rfl, hc⟩ | hsecond
  · rcases List.cons_eq_append_iff.mp hc with ⟨rfl, rfl⟩ | ⟨d, rfl, rfl⟩
    · exact .inr ⟨[], by simp, rfl⟩
    · exact .inl ⟨d, rfl, rfl⟩
  · exact .inr hsecond

namespace State

/-- Slot `n` takes the record `u` and enters the list of its axis: what an arming and a repeating slot have in common. -/
def enlist (n : SlotNo) (u : Trigger) (s : State) : State := (s.setSlot n (some u)).place u.axis n

/-- Slot `n` is in no arm list. -/
def Unlisted (s : State) (n : SlotNo) : Prop := ∀ a, n ∉ s.armList a

theorem TableOk.unlisted {s : State} (h : s.TableOk) {n : SlotNo} (hn : ∀ u, s.slot n = some u → u.state ≠ .armed) :
    s.Unlisted n := fun a hmem => by
  obtain ⟨u, hu, harmed, -⟩ := (h.listed a n).mp hmem
  exact hn u hu harmed

/-- An arming enters the list at the origin (R60). -/
theorem arm_eq_enlist (s : State) (n : SlotNo) (t : Trigger) : s.arm n t = s.enlist n t.armedAtOrigin := rfl

section

variable {s : State} {n : SlotNo} {u : Trigger}

theorem enlist_slot (m : SlotNo) : (s.enlist n u).slot m = if m = n then some u else s.slot m := by
  simp only [enlist, place_slot, setSlot_slot]

@[simp] theorem enlist_slot_self : (s.enlist n u).slot n = some u := by simp [enlist_slot]

theorem enlist_slot_ne {m : SlotNo} (h : m ≠ n) : (s.enlist n u).slot m = s.slot m := by simp [enlist_slot, h]

theorem enlist_targetOf_ne {m : SlotNo} (h : m ≠ n) : (s.enlist n u).targetOf m = s.targetOf m :=
  targetOf_congr (enlist_slot_ne h)

@[simp] theorem enlist_targetOf_self : (s.enlist n u).targetOf n = u.target.toInt := targetOf_some enlist_slot_self

theorem enlist_armList_self :
    (s.enlist n u).armList u.axis = placeIn (s.enlist n u).targetOf n u.target.toInt (s.armList u.axis) := by
  rw [← enlist_targetOf_self (s := s) (n := n)]
  simp only [enlist, place_armList, if_true, setSlot_armList]
  rfl

theorem enlist_armList_ne {a : Axis} (h : a ≠ u.axis) : (s.enlist n u).armList a = s.armList a := by
  simp only [enlist, place_armList, if_neg h, setSlot_armList]

theorem mem_enlist_armList {a : Axis} {m : SlotNo} :
    m ∈ (s.enlist n u).armList a ↔ (m = n ∧ a = u.axis) ∨ m ∈ s.armList a := by
  by_cases ha : a = u.axis
  · subst ha
    simp [enlist_armList_self, mem_placeIn]
  · simp [enlist_armList_ne ha, ha]

/-- A list without the slot keeps its order: no target in it has changed. -/
theorem sorted_enlist (h : s.TableOk) (hout : s.Unlisted n) (a : Axis) :
    (s.armList a).Pairwise fun m k => (s.enlist n u).targetOf m ≤ (s.enlist n u).targetOf k := by
  refine (h.sorted a).imp_of_mem fun {m k} hm hk hle => ?_
  rwa [enlist_targetOf_ne (ne_of_mem_of_not_mem hm (hout a)), enlist_targetOf_ne (ne_of_mem_of_not_mem hk (hout a))]

/-- The slot enters behind its equals (R50). -/
theorem enlist_split (h : s.TableOk) (hout : s.Unlisted n) :
    ∃ l₁ l₂, s.armList u.axis = l₁ ++ l₂ ∧ (s.enlist n u).armList u.axis = l₁ ++ n :: l₂ ∧
      (∀ m ∈ l₁, (s.enlist n u).targetOf m ≤ u.target.toInt) ∧
      ∀ m ∈ l₂, u.target.toInt < (s.enlist n u).targetOf m := by
  rw [enlist_armList_self]
  exact placeIn_split _ _ _ _ (sorted_enlist h hout u.axis)

/-- An ARMED record that enters the list of its axis keeps the laws of the table. -/
theorem enlist_tableOk (h : s.TableOk) (hout : s.Unlisted n) (hu : u.state = .armed) : (s.enlist n u).TableOk where
  listed a m := by
    rw [mem_enlist_armList]
    by_cases hm : m = n
    · subst hm
      simp [hout a, hu, eq_comm]
    · rw [enlist_slot_ne hm, ← h.listed a m]
      simp [hm]
  once a := by
    by_cases ha : a = u.axis
    · subst ha
      rw [enlist_armList_self, (placeIn_perm _ _ _ _).nodup_iff]
      exact List.nodup_cons.mpr ⟨hout _, h.once _⟩
    · rw [enlist_armList_ne ha]
      exact h.once a
  sorted a := by
    by_cases ha : a = u.axis
    · subst ha
      rw [enlist_armList_self, ← enlist_targetOf_self (s := s) (n := n)]
      exact placeIn_sorted _ _ _ (sorted_enlist h hout _)
    · rw [enlist_armList_ne ha]
      exact sorted_enlist h hout a
  atOrigin m v hv hstate := by
    by_cases hm : m = n
    · subst hm
      rw [enlist_slot_self] at hv
      cases hv
      exact absurd hu hstate
    · exact h.atOrigin m v (enlist_slot_ne hm ▸ hv) hstate

/-- A slot that leaves the list of its axis for a state other than ARMED keeps the laws of the table (R42). -/
theorem unarm_tableOk {st : SlotState} (h : s.TableOk) (haxis : ∀ v, s.slot n = some v → v.axis = u.axis)
    (hst : st ≠ .armed) : (s.unarm n u st).TableOk := by
  have hmem : ∀ a m, m ∈ (s.unarm n u st).armList a ↔ m ∈ s.armList a ∧ m ≠ n := fun a m => by
    rw [unarm_armList]
    split
    · simp
    · next ha =>
      refine ⟨fun hm => ⟨hm, ?_⟩, And.left⟩
      rintro rfl
      obtain ⟨v, hv, -, hva⟩ := (h.listed a m).mp hm
      exact ha (hva ▸ haxis v hv)
  have hslot : ∀ m, m ≠ n → (s.unarm n u st).slot m = s.slot m := fun m hm => by rw [unarm_slot, if_neg hm]
  have hsub : ∀ a, ((s.unarm n u st).armList a).Sublist (s.armList a) := fun a => by
    rw [unarm_armList]
    split
    · exact List.filter_sublist
    · exact List.Sublist.refl _
  refine ⟨fun a m => ?_, fun a => (h.once a).sublist (hsub a), fun a => ?_, fun m v hv hstate => ?_⟩
  · rw [hmem, h.listed]
    by_cases hm : m = n
    · subst hm
      simp [unarm_slot, hst]
    · simp [hslot m hm, hm]
  · refine ((h.sorted a).sublist (hsub a)).imp_of_mem fun {m k} hm hk hle => ?_
    rwa [targetOf_congr (hslot m ((hmem a m).mp hm).2), targetOf_congr (hslot k ((hmem a k).mp hk).2)]
  · by_cases hm : m = n
    · subst hm
      simp only [unarm_slot, if_true, Option.some.injEq] at hv
      exact hv ▸ rfl
    · exact h.atOrigin m v (hslot m hm ▸ hv) hstate

end

/-! ### The place of a slot in its list (R50) -/

/-- Slot `n` stands in the list of axis `a` with the targets up to its own before it; behind it stand greater targets, and
the slots of `later`, which came after it. -/
def StandsBehindEquals (s : State) (a : Axis) (n : SlotNo) (later : SlotNo → Prop) : Prop :=
  ∃ l₁ l₂, s.armList a = l₁ ++ n :: l₂ ∧ (∀ k ∈ l₁, s.targetOf k ≤ s.targetOf n) ∧
    ∀ k ∈ l₂, s.targetOf n < s.targetOf k ∨ later k

section

variable {s : State} {n m : SlotNo} {u : Trigger} {a : Axis} {later : SlotNo → Prop}

theorem standsBehindEquals_enlist (h : s.TableOk) (hout : s.Unlisted n) :
    (s.enlist n u).StandsBehindEquals u.axis n later := by
  obtain ⟨l₁, l₂, -, hlist, hbefore, hbehind⟩ := enlist_split (u := u) h hout
  refine ⟨l₁, l₂, hlist, fun k hk => ?_, fun k hk => .inl ?_⟩
  · rw [enlist_targetOf_self]
    exact hbefore k hk
  · rw [enlist_targetOf_self]
    exact hbehind k hk

/-- The place depends on the list and on the targets in it. -/
theorem StandsBehindEquals.congr {s' : State} (hn : s.StandsBehindEquals a n later) (hlist : s'.armList a = s.armList a)
    (htarget : ∀ k ∈ s.armList a, s'.targetOf k = s.targetOf k) : s'.StandsBehindEquals a n later := by
  obtain ⟨l₁, l₂, hl, hbefore, hbehind⟩ := hn
  have hkey : ∀ k ∈ l₁ ++ n :: l₂, s'.targetOf k = s.targetOf k := hl ▸ htarget
  refine ⟨l₁, l₂, hlist.trans hl, fun k hk => ?_, fun k hk => ?_⟩
  · rw [hkey n (by simp), hkey k (by simp [hk])]
    exact hbefore k hk
  · rw [hkey n (by simp), hkey k (by simp [hk])]
    exact hbehind k hk

/-- A slot of `later` that enters a list leaves slot `n` in its place: it goes before `n` only with a smaller target. -/
theorem StandsBehindEquals.enlist (hn : s.StandsBehindEquals a n later) (h : s.TableOk) (hout : s.Unlisted m)
    (hlater : later m) : (s.enlist m u).StandsBehindEquals a n later := by
  have hkey : ∀ k ∈ s.armList a, (s.enlist m u).targetOf k = s.targetOf k := fun k hk =>
    enlist_targetOf_ne (ne_of_mem_of_not_mem hk (hout a))
  by_cases ha : a = u.axis
  · subst ha
    obtain ⟨l₁, l₂, hl, hbefore, hbehind⟩ := hn
    obtain ⟨m₁, m₂, hsplit, hlist, -, hgreater⟩ := enlist_split (u := u) h hout
    rw [hl] at hkey
    have hkeyn := hkey n (by simp)
    have hbefore' : ∀ k ∈ l₁, (s.enlist m u).targetOf k ≤ (s.enlist m u).targetOf n := fun k hk => by
      rw [hkeyn, hkey k (by simp [hk])]
      exact hbefore k hk
    have hbehind' : ∀ k ∈ l₂, (s.enlist m u).targetOf n < (s.enlist m u).targetOf k ∨ later k := fun k hk => by
      rw [hkeyn, hkey k (by simp [hk])]
      exact hbehind k hk
    rcases append_cons_eq_append (hl.symm.trans hsplit) with ⟨c, rfl, rfl⟩ | ⟨c, rfl, rfl⟩
    · refine ⟨l₁, c ++ m :: m₂, by simp [hlist], hbefore', fun k hk => ?_⟩
      rcases List.mem_append.mp hk with hk | hk
      · exact hbehind' k (by simp [hk])
      · rcases List.mem_cons.mp hk with rfl | hk
        · exact .inr hlater
        · exact hbehind' k (by simp [hk])
    · refine ⟨m₁ ++ m :: c, l₂, by simp [hlist], fun k hk => ?_, hbehind'⟩
      rcases List.mem_append.mp hk with hk | hk
      · exact hbefore' k (by simp [hk])
      · rcases List.mem_cons.mp hk with rfl | hk
        · rw [enlist_targetOf_self]
          exact (hgreater n (by simp)).le
        · exact hbefore' k (by simp [hk])
  · exact hn.congr (enlist_armList_ne ha) hkey

end

end State

/-! ### The steps of a fire (R69) -/

namespace State

theorem setSlot_setSlot (s : State) (n : SlotNo) (v w : Option Trigger) : (s.setSlot n v).setSlot n w = s.setSlot n w := by
  simp [setSlot]

/-- Whether step 4 arms a slot, as a property of that slot's record (R75). -/
theorem chainable_eq_some_iff {s : State} {p : Port} {m : SlotNo} {u : Trigger} :
    s.chainable p m = some u ↔ s.slot m = some u ∧ u.state = .staged ∧ u.owner = p ∧
      u.fits (s.axis u.axis).config.modulus = true := by
  unfold chainable
  cases s.slot m with
  | none => simp
  | some v =>
    simp only [Option.ite_none_right_eq_some, Option.some.injEq]
    constructor
    · rintro ⟨hv, rfl⟩
      exact ⟨rfl, hv⟩
    · rintro ⟨rfl, hv⟩
      exact ⟨hv, rfl⟩

section

variable {s : State} {n : SlotNo} {t : Trigger} {rep : Repeat}

/-- A slot that repeats leaves its list and enters it again (R73). -/
theorem fireOwn_of_repeating (h : t.rep = some rep) (hmore : rep.firesTotal = 0 ∨ 2 ≤ rep.firesLeft) :
    s.fireOwn n t = (s.unarm n t .staged).enlist n (t.repeated (s.axis t.axis).config.modulus rep) := by
  simp only [fireOwn, t.countFire_of_repeating h hmore, enlist, unarm, setSlot_setSlot]
  rfl

/-- A slot that finishes leaves its list (R74). -/
theorem fireOwn_of_finishing (h : t.finishing = true) :
    s.fireOwn n t = s.unarm n t.counted (if t.retain then .staged else .retiring) := by
  simp only [fireOwn, t.countFire_of_finishing h]
  rfl

theorem fireOwn_slot_of_repeating (h : t.rep = some rep) (hmore : rep.firesTotal = 0 ∨ 2 ≤ rep.firesLeft) :
    (s.fireOwn n t).slot n = some (t.repeated (s.axis t.axis).config.modulus rep) := by
  rw [fireOwn_of_repeating h hmore, enlist_slot_self]

theorem fireOwn_slot_of_finishing (h : t.finishing = true) : (s.fireOwn n t).slot n = some t.finished := by
  rw [fireOwn_of_finishing h, unarm_slot, if_pos rfl]
  rfl

theorem fireOwn_slot_ne {m : SlotNo} (h : m ≠ n) : (s.fireOwn n t).slot m = s.slot m := by rw [fireOwn_slot, if_neg h]

/-- Step 3 leaves its slot ARMED only if it repeats. -/
theorem fireOwn_tableOk (h : s.TableOk) (hslot : s.slot n = some t) (harmed : t.state = .armed) :
    (s.fireOwn n t).TableOk := by
  have haxis : ∀ v, s.slot n = some v → v.axis = t.axis := fun v hv => by
    rw [hslot] at hv
    exact Option.some.inj hv ▸ rfl
  by_cases hfin : t.finishing = true
  · rw [fireOwn_of_finishing hfin]
    exact unarm_tableOk h haxis (by split <;> simp)
  · obtain ⟨rep, hrep, hmore⟩ := t.exists_rep_of_not_finishing hfin
    have hout : (s.unarm n t .staged).TableOk := unarm_tableOk h haxis (by simp)
    rw [fireOwn_of_repeating hrep hmore]
    refine enlist_tableOk hout (hout.unlisted fun v hv => ?_) harmed
    simp only [unarm_slot, if_true, Option.some.injEq] at hv
    exact hv ▸ by simp

end

section

variable {s : State} {n m : SlotNo} {t u : Trigger} {r : Arrival} {a : Axis} {later : SlotNo → Prop}

/-- Step 4 arms the successor, or leaves slots and lists (R75, R76). -/
theorem fireChain_cases (s : State) (n : SlotNo) (t : Trigger) (r : Arrival) :
    (∃ m u, t.successor = some m ∧ s.chainable t.owner m = some u ∧
      s.fireChain n t r = s.enlist m u.armedAtOrigin) ∨
    ((∀ m, t.successor = some m → s.chainable t.owner m = none) ∧ (s.fireChain n t r).slots = s.slots ∧
      (s.fireChain n t r).armLists = s.armLists) := by
  unfold fireChain
  cases t.successor with
  | none => exact .inr ⟨by simp, rfl, rfl⟩
  | some m =>
    cases hm : s.chainable t.owner m with
    | none => exact .inr ⟨by simp [hm], by simp [hm], by simp [hm]⟩
    | some u => exact .inl ⟨m, u, rfl, hm, by simp [hm, arm_eq_enlist]⟩

theorem fireChain_of_chainable (hsucc : t.successor = some m) (hm : s.chainable t.owner m = some u) :
    s.fireChain n t r = s.enlist m u.armedAtOrigin := by
  simp only [fireChain, hsucc, hm, arm_eq_enlist]

theorem fireChain_slot_of_not_chained (h : ¬(t.successor = some m ∧ (s.chainable t.owner m).isSome = true)) :
    (s.fireChain n t r).slot m = s.slot m := by
  rcases fireChain_cases s n t r with ⟨k, u, hsucc, hk, heq⟩ | ⟨-, hslots, -⟩
  · have hne : m ≠ k := by
      rintro rfl
      exact h ⟨hsucc, by simp [hk]⟩
    rw [heq, enlist_slot_ne hne]
  · simp only [slot, hslots]

theorem mem_fireChain_armList_of_not_chained
    (h : ¬(t.successor = some m ∧ (s.chainable t.owner m).isSome = true)) :
    m ∈ (s.fireChain n t r).armList a ↔ m ∈ s.armList a := by
  rcases fireChain_cases s n t r with ⟨k, u, hsucc, hk, heq⟩ | ⟨-, -, hlists⟩
  · have hne : m ≠ k := by
      rintro rfl
      exact h ⟨hsucc, by simp [hk]⟩
    simp [heq, mem_enlist_armList, hne]
  · simp only [armList, hlists]

/-- What step 4 may arm is STAGED, so it is in no list. -/
theorem TableOk.unlisted_of_chainable (h : s.TableOk) {p : Port} (hm : s.chainable p m = some u) : s.Unlisted m := by
  obtain ⟨hslot, hstaged, -, -⟩ := chainable_eq_some_iff.mp hm
  refine h.unlisted fun v hv => ?_
  rw [hslot] at hv
  cases hv
  simp [hstaged]

/-- Step 4 leaves the firing slot in its place, but for the successor behind it. -/
theorem StandsBehindEquals.fireChain (hn : s.StandsBehindEquals a n later) (h : s.TableOk)
    (hlater : ∀ m, t.successor = some m → later m) : (s.fireChain n t r).StandsBehindEquals a n later := by
  rcases fireChain_cases s n t r with ⟨m, u, hsucc, hm, heq⟩ | ⟨-, hslots, hlists⟩
  · rw [heq]
    exact hn.enlist h (h.unlisted_of_chainable hm) (hlater m hsucc)
  · refine hn.congr (by simp only [armList, hlists]) fun k _ => targetOf_congr ?_
    simp only [slot, hslots]

/-- The close of a fire is for a RETIRING slot (R74). -/
theorem fireClose_of_not_retiring (hslot : s.slot n = some u) (hu : u.state ≠ .retiring) : s.fireClose n = s := by
  simp only [fireClose, hslot, if_neg hu]

theorem fireClose_slot_ne (h : m ≠ n) : (s.fireClose n).slot m = s.slot m := by
  rw [fireClose_slot]
  cases s.slot n <;> simp [h]

/-- The close of a fire leaves every slot that is not RETIRING. -/
theorem fireClose_slot_of_not_retiring (hslot : s.slot m = some u) (hu : u.state ≠ .retiring) :
    (s.fireClose n).slot m = some u := by
  by_cases hm : m = n
  · subst hm
    rw [fireClose_of_not_retiring hslot hu, hslot]
  · rw [fireClose_slot_ne hm, hslot]

theorem StandsBehindEquals.fireClose (hn : s.StandsBehindEquals a m later) (h : s.TableOk) :
    (s.fireClose n).StandsBehindEquals a m later := by
  refine hn.congr (fireClose_armList s n a) fun k hk => targetOf_congr ?_
  obtain ⟨u, hu, harmed, -⟩ := (h.listed a k).mp hk
  rw [fireClose_slot_of_not_retiring hu (by simp [harmed]), hu]

end

/-! ### A fire after its step 3 -/

/-- The part after steps 1 to 3 of a fire: the line has acted, the owner has the FIRE, the slot repeats or finishes. -/
def firedOwn (s : State) (r : Arrival) (n : SlotNo) (t : Trigger) : State :=
  ((s.fireLine t).fireNote n t r).fireOwn n t

section

variable {s : State} {r : Arrival} {n m : SlotNo} {t : Trigger} {rep : Repeat}

theorem fire_eq_firedOwn (hslot : s.slot n = some t) (harmed : t.state = .armed) :
    s.fire r n = ((s.firedOwn r n t).fireChain n t r).fireClose n := fire_eq r hslot harmed

@[simp] theorem firedOwn_axis (a : Axis) : (s.firedOwn r n t).axis a = s.axis a := by simp [firedOwn]

@[simp] theorem firedOwn_heldBy (q : Port) : (s.firedOwn r n t).heldBy q = s.heldBy q := by simp [firedOwn]

theorem firedOwn_slot_ne (h : m ≠ n) : (s.firedOwn r n t).slot m = s.slot m := by
  rw [firedOwn, fireOwn_slot_ne h, fireNote_slot, fireLine_slot]

theorem firedOwn_slot_of_repeating (h : t.rep = some rep) (hmore : rep.firesTotal = 0 ∨ 2 ≤ rep.firesLeft) :
    (s.firedOwn r n t).slot n = some (t.repeated (s.axis t.axis).config.modulus rep) := by
  rw [firedOwn, fireOwn_slot_of_repeating h hmore, fireNote_axis, fireLine_axis]

theorem firedOwn_slot_of_finishing (h : t.finishing = true) : (s.firedOwn r n t).slot n = some t.finished :=
  fireOwn_slot_of_finishing h

/-- Steps 1 and 2 do not touch slots or lists. -/
theorem fireNote_fireLine_tableOk (h : s.TableOk) : ((s.fireLine t).fireNote n t r).TableOk :=
  h.congr (by simp) (by simp)

theorem firedOwn_tableOk (h : s.TableOk) (hslot : s.slot n = some t) (harmed : t.state = .armed) :
    (s.firedOwn r n t).TableOk :=
  fireOwn_tableOk (fireNote_fireLine_tableOk h) (by simpa using hslot) harmed

/-- A slot that repeats is placed behind its equals (R73). -/
theorem firedOwn_standsBehindEquals {later : SlotNo → Prop} (h : s.TableOk) (hslot : s.slot n = some t)
    (hrep : t.rep = some rep) (hmore : rep.firesTotal = 0 ∨ 2 ≤ rep.firesLeft) :
    (s.firedOwn r n t).StandsBehindEquals t.axis n later := by
  have hout : (((s.fireLine t).fireNote n t r).unarm n t .staged).TableOk :=
    unarm_tableOk (fireNote_fireLine_tableOk h) (by simp [hslot]) (by simp)
  rw [firedOwn, fireOwn_of_repeating hrep hmore]
  exact standsBehindEquals_enlist hout (hout.unlisted (by simp [unarm_slot]))

/-- A slot that finishes is out of the list of its axis (R74). -/
theorem not_mem_firedOwn_armList (h : t.finishing = true) : n ∉ (s.firedOwn r n t).armList t.axis := by
  rw [firedOwn, fireOwn_of_finishing h, unarm_armList]
  simp [Trigger.counted]

/-- The state before the fire tells whether step 4 arms the successor: another slot is as it was, and the firing slot is
STAGED again exactly if it finishes with retain yes (R75 to R77). -/
theorem isSome_chainable_firedOwn (hslot : s.slot n = some t) (harmed : t.state = .armed) (m : SlotNo) :
    ((s.firedOwn r n t).chainable t.owner m).isSome = s.chainArms n t m := by
  rw [Bool.eq_iff_iff, Option.isSome_iff_exists]
  simp only [chainable_eq_some_iff, firedOwn_axis, chainArms]
  by_cases hm : m = n
  · subst hm
    by_cases hfin : t.finishing = true
    · simp only [firedOwn_slot_of_finishing hfin, Option.some.injEq, exists_eq_left', t.finished_state_eq_staged_iff,
        t.fits_finished, if_true, hfin, Bool.true_and, Bool.and_eq_true]
      exact and_congr_right fun _ => ⟨And.right, fun h => ⟨rfl, h⟩⟩
    · obtain ⟨rep, hrep, hmore⟩ := t.exists_rep_of_not_finishing hfin
      simp [firedOwn_slot_of_repeating hrep hmore, Trigger.repeated, harmed, hfin]
  · rw [firedOwn_slot_ne hm, if_neg hm]
    cases s.slot m <;> simp

/-- A successor that is armed gets one record, whether it is the firing slot or another one (R75, R77). -/
theorem exists_chainable_of_chainArms {u : Trigger} (hslot : s.slot n = some t) (harmed : t.state = .armed)
    (harms : s.chainArms n t m = true) (hu : s.slot m = some u) :
    ∃ v, (s.firedOwn r n t).chainable t.owner m = some v ∧ v.armedAtOrigin = u.armedAtOrigin := by
  obtain ⟨v, hv⟩ := Option.isSome_iff_exists.mp ((isSome_chainable_firedOwn (r := r) hslot harmed m).trans harms)
  refine ⟨v, hv, ?_⟩
  obtain ⟨hvslot, -, -, -⟩ := chainable_eq_some_iff.mp hv
  by_cases hm : m = n
  · subst hm
    have hfin : t.finishing = true := by
      simp only [chainArms, if_true, Bool.and_eq_true] at harms
      exact harms.1.1
    rw [firedOwn_slot_of_finishing hfin] at hvslot
    cases hvslot
    cases hslot.symm.trans hu
    exact t.armedAtOrigin_finished
  · rw [firedOwn_slot_ne hm, hu] at hvslot
    cases hvslot
    rfl

end

end State

/-! ### The fire as a whole (R69 to R77) -/

namespace State

section

variable {s : State} {r : Arrival} {n m : SlotNo} {t : Trigger} {rep : Repeat}

/-- A fire acts on the slot's line alone (R70). -/
theorem fire_line (hslot : s.slot n = some t) (harmed : t.state = .armed) (l : LineNo) :
    (s.fire r n).line l =
      match t.job with
      | some j => if l = j.line then (s.line l).act j.act else s.line l
      | none => s.line l := by
  rw [fire_eq r hslot harmed, fireClose_line, fireChain_line, fireOwn_line, fireNote_line]
  exact fireLine_line s t l

/-- The reports of a fire, in the order its owner takes them (R71, R76). -/
def fireReports (s : State) (r : Arrival) (n : SlotNo) (t : Trigger) : List Report :=
  (if t.notify then [t.fireReport n r] else []) ++
    match t.successor with
    | some m => if s.chainArms n t m then [] else [t.missReport n r m]
    | none => []

/-- A fire reports to the slot's owner alone (R71, R76). -/
theorem fire_note (hslot : s.slot n = some t) (harmed : t.state = .armed) (q : Port) :
    (s.fire r n).note q =
      if q = t.owner then (s.fireReports r n t).foldl (fun u x => u.take x) (s.note q) else s.note q := by
  have hfirst : (s.firedOwn r n t).note q =
      if q = t.owner ∧ t.notify = true then (s.note q).take (t.fireReport n r) else s.note q := by
    rw [firedOwn, fireOwn_note, fireNote_note, fireLine_note]
  have hmiss : ∀ m, (s.firedOwn r n t).chainable t.owner m = none ↔ s.chainArms n t m = false := fun m => by
    rw [← isSome_chainable_firedOwn (r := r) hslot harmed m, Option.isSome_eq_false_iff, Option.isNone_iff_eq_none]
  rw [fire_eq_firedOwn hslot harmed, fireClose_note, fireChain_note, hfirst]
  by_cases hq : q = t.owner
  · cases hsucc : t.successor with
    | none => cases hnotify : t.notify <;> simp [fireReports, hsucc, hnotify, hq]
    | some m =>
      cases hnotify : t.notify <;> cases harms : s.chainArms n t m <;>
        simp [fireReports, hsucc, hnotify, hq, hmiss, harms]
  · cases t.successor <;> simp [hq]

/-- A fire leaves every slot but the firing one and an armed successor (R75). -/
theorem fire_slot_of_not_chained (hslot : s.slot n = some t) (harmed : t.state = .armed) (hne : m ≠ n)
    (hm : ¬(t.successor = some m ∧ s.chainArms n t m = true)) : (s.fire r n).slot m = s.slot m := by
  rw [← isSome_chainable_firedOwn (r := r) hslot harmed m] at hm
  rw [fire_eq_firedOwn hslot harmed, fireClose_slot_ne hne, fireChain_slot_of_not_chained hm, firedOwn_slot_ne hne]

/-- A slot that repeats does not arm itself and is not given up (R73, R77). -/
theorem fire_of_repeating (hslot : s.slot n = some t) (harmed : t.state = .armed) (hrep : t.rep = some rep)
    (hmore : rep.firesTotal = 0 ∨ 2 ≤ rep.firesLeft) :
    s.fire r n = (s.firedOwn r n t).fireChain n t r ∧
      (s.fire r n).slot n = some (t.repeated (s.axis t.axis).config.modulus rep) := by
  have hself : ¬(t.successor = some n ∧ ((s.firedOwn r n t).chainable t.owner n).isSome = true) := by
    rw [isSome_chainable_firedOwn hslot harmed]
    simp [chainArms, t.not_finishing_of_repeating hrep hmore]
  have hown : ((s.firedOwn r n t).fireChain n t r).slot n =
      some (t.repeated (s.axis t.axis).config.modulus rep) := by
    rw [fireChain_slot_of_not_chained hself, firedOwn_slot_of_repeating hrep hmore]
  have hfire : s.fire r n = (s.firedOwn r n t).fireChain n t r := by
    rw [fire_eq_firedOwn hslot harmed, fireClose_of_not_retiring hown (by simp [Trigger.repeated, harmed])]
  exact ⟨hfire, hfire ▸ hown⟩

/-- A slot that finishes and does not arm itself is out of its list, and stands finished before the close of the fire
(R74). -/
theorem fire_of_finishing (hslot : s.slot n = some t) (harmed : t.state = .armed) (hfin : t.finishing = true)
    (hself : ¬(t.successor = some n ∧ s.chainArms n t n = true)) :
    n ∉ (s.fire r n).armList t.axis ∧ ((s.firedOwn r n t).fireChain n t r).slot n = some t.finished := by
  rw [← isSome_chainable_firedOwn (r := r) hslot harmed n] at hself
  rw [fire_eq_firedOwn hslot harmed, fireClose_armList, mem_fireChain_armList_of_not_chained hself,
    fireChain_slot_of_not_chained hself]
  exact ⟨not_mem_firedOwn_armList hfin, firedOwn_slot_of_finishing hfin⟩

end

end State

/-- Settles O28: by `State.fire_line` and `State.fire_note`. -/
theorem fireActsOnTheLineAndReports : Obligations.FireActsOnTheLineAndReports := by
  intro s r n t hslot harmed
  exact ⟨State.fire_line hslot harmed, State.fire_note hslot harmed⟩

/-- Settles O29: a repeating slot by `State.fire_of_repeating`, a finishing one by `State.fire_of_finishing` and the close
of the fire. -/
theorem fireSettlesItsOwnSlot : Obligations.FireSettlesItsOwnSlot := by
  intro s r n t hslot harmed
  refine ⟨fun rep hrep hmore => ?_, fun hfin hself => ?_⟩
  · obtain ⟨hfire, hown⟩ := State.fire_of_repeating (r := r) hslot harmed hrep hmore
    refine ⟨_, hown, fun hok => ?_, fun q => ?_, fun hlinear => ?_, nextTarget_toInt⟩
    · have hstands : (s.fire r n).StandsBehindEquals t.axis n (t.successor = some ·) := by
        rw [hfire]
        exact (State.firedOwn_standsBehindEquals hok hslot hrep hmore).fireChain
          (State.firedOwn_tableOk hok hslot harmed) fun _ => id
      rwa [State.StandsBehindEquals, State.targetOf_some hown] at hstands
    · rw [hfire, State.fireChain_heldBy, State.firedOwn_heldBy]
    · rw [nextTarget, if_pos hlinear]
  · obtain ⟨hout, hown⟩ := State.fire_of_finishing (r := r) hslot harmed hfin hself
    rw [State.fire_eq_firedOwn hslot harmed] at hout ⊢
    refine ⟨hout, fun hretain => ?_, fun hretain howed => ?_, fun hretain howed => ?_⟩
    · have hstate : t.finished.state ≠ .retiring := by simp [Trigger.finished, hretain]
      rw [State.fireClose_of_not_retiring hown hstate, hown]
      refine ⟨by simp [Trigger.finished, hretain], fun q => ?_⟩
      rw [State.fireChain_heldBy, State.firedOwn_heldBy]
    all_goals
      rw [State.fireClose_note] at howed
      have hstate : t.finished.state = .retiring := by simp [Trigger.finished, hretain]
      have howner : t.finished.owner = t.owner := rfl
    · refine ⟨?_, fun q => ?_⟩
      · rw [State.fireClose_slot]
        simp only [hown, hstate, howner, howed, and_self, if_true]
        rfl
      · rw [State.fireClose_heldBy]
        simp [hown, howner, howed]
    · refine ⟨?_, fun q => ?_⟩
      · rw [State.fireClose_slot]
        simp [hown, hstate, howner, howed]
      · rw [State.fireClose_heldBy]
        simp [hown, hstate, howner, howed]

/-- Settles O30: the successor enters its list at its origin in step 4, and the close of the fire leaves it there. -/
theorem fireArmsItsSuccessor : Obligations.FireArmsItsSuccessor := by
  intro s r n t hslot harmed
  refine ⟨fun m u hsucc harms hu => ?_, fun m hne hm => State.fire_slot_of_not_chained hslot harmed hne hm, ?_⟩
  · obtain ⟨v, hv, hvu⟩ := State.exists_chainable_of_chainArms (r := r) hslot harmed harms hu
    have hfire : s.fire r n = ((s.firedOwn r n t).enlist m u.armedAtOrigin).fireClose n := by
      rw [State.fire_eq_firedOwn hslot harmed, State.fireChain_of_chainable hsucc hv, hvu]
    have hslotm : (s.fire r n).slot m = some u.armedAtOrigin := by
      rw [hfire]
      exact State.fireClose_slot_of_not_retiring State.enlist_slot_self (by simp [Trigger.armedAtOrigin])
    refine ⟨hslotm, fun hok => ?_⟩
    have hown : (s.firedOwn r n t).TableOk := State.firedOwn_tableOk hok hslot harmed
    have hstands : (s.fire r n).StandsBehindEquals u.axis m fun _ => False := by
      rw [hfire]
      exact (State.standsBehindEquals_enlist hown (hown.unlisted_of_chainable hv)).fireClose
        (State.enlist_tableOk hown (hown.unlisted_of_chainable hv) rfl)
    rw [State.StandsBehindEquals, State.targetOf_some hslotm] at hstands
    simp only [or_false] at hstands
    exact hstands
  · simp [SameTime, SameAxes, SameViews, SameSessions, SameRights, SameLinks, SameArbiter]

end Sys2Proof.Machine

/-!
PROOF. The family of the output lines: the line actions, the pins and the pulse expiry (O32), LINE_CLAIM and
LINE_RELEASE (O33).
-/

namespace Sys2Proof.Machine

/-! ### Line records (R92, R100 to R102) -/

/-- What the pin of a line without an owner shows; none is high impedance (R92). -/
def Release.pin : Release → Option PinLevel
  | .low => some .low
  | .high => some .high
  | .float => none

namespace LineRec

variable {r : LineRec}

theorem act_set : r.act .set = { r with state := .active, timer := .stopped } := rfl

theorem act_clear : r.act .clear = { r with state := .inactive, timer := .stopped } := rfl

theorem act_toggle_of_inactive (h : r.state = .inactive) :
    r.act .toggle = { r with state := .active, timer := .stopped } := by
  rw [act, h]

theorem act_toggle_of_active (h : r.state = .active) :
    r.act .toggle = { r with state := .inactive, timer := .stopped } := by
  rw [act, h]

theorem act_pulse {w : Nat} (hw : 1 ≤ w) : r.act (.pulse w) = { r with state := .active, timer := .running w } := by
  rw [act, Timer.load, if_neg (by omega)]

theorem pin_of_activeHigh (howner : r.owner.isSome = true) (hpol : r.polarity = .activeHigh) :
    r.pin = some (if r.state = .active then .high else .low) := by
  obtain ⟨q, hq⟩ := Option.isSome_iff_exists.mp howner
  cases hstate : r.state <;> simp [pin, hq, hpol, hstate]

theorem pin_of_activeLow (howner : r.owner.isSome = true) (hpol : r.polarity = .activeLow) :
    r.pin = some (if r.state = .active then .low else .high) := by
  obtain ⟨q, hq⟩ := Option.isSome_iff_exists.mp howner
  cases hstate : r.state <;> simp [pin, hq, hpol, hstate]

theorem pin_of_unowned (howner : r.owner = none) : r.pin = r.release.pin := by
  rw [pin, howner]
  cases r.release <;> rfl

end LineRec

theorem exec_pulseExpiry_of_due {l : LineNo} {s : State} (h : (s.line l).timer = .due) :
    exec (.pulseExpiry l) s = .next (s.setLine l { s.line l with state := .inactive, timer := .stopped }) :=
  congrArg _ (if_pos h)

/-- Settles O32: the actions one by one, the pin by polarity or by release level, and the expiry that is due. -/
theorem lineActionsPinsAndExpiry : Obligations.LineActionsPinsAndExpiry := by
  refine ⟨fun r w hw => ?_, fun r howner => ?_, fun r howner => ?_, fun l s => exec_pulseExpiry_of_due⟩
  · exact ⟨LineRec.act_set, LineRec.act_clear, LineRec.act_toggle_of_inactive, LineRec.act_toggle_of_active,
      LineRec.act_pulse hw⟩
  · exact ⟨LineRec.pin_of_activeHigh howner, LineRec.pin_of_activeLow howner⟩
  · rw [LineRec.pin_of_unowned howner]
    exact ⟨congrArg Release.pin, congrArg Release.pin, congrArg Release.pin⟩

/-! ### The parameters of a line command (R95, R96) -/

/-- The first byte of a line command's parameters names the line. -/
@[simp] theorem paramNat_line (l : LineNo) (ps : List Byte) : paramNat (byteOf l.val :: ps) 0 = l.val :=
  toNat_byteOf_line l

@[simp] theorem paramNat_two (b c d : Byte) (ps : List Byte) : paramNat (b :: c :: d :: ps) 2 = d.toNat := rfl

/-- The check of R95 passes for a line there is. -/
theorem withLine_of_line (l : LineNo) (ps : List Byte) (k : LineNo → Reply) :
    withLine (paramNat (byteOf l.val :: ps) 0) k = k l := by
  rw [withLine, paramNat_line, below_val]

theorem Polarity.ofCode_eq_none_iff {n : Nat} : Polarity.ofCode n = none ↔ 1 < n := by
  match n with
  | 0 | 1 | n + 2 => simp [Polarity.ofCode]

theorem Release.ofCode_eq_none_iff {n : Nat} : Release.ofCode n = none ↔ 2 < n := by
  match n with
  | 0 | 1 | 2 | n + 3 => simp [Release.ofCode]

theorem Polarity.ofCode_of_mem {b : Byte} {polarity : Polarity}
    (h : (b, polarity) ∈ [((0 : Byte), Polarity.activeHigh), (1, .activeLow)]) :
    Polarity.ofCode b.toNat = some polarity := by
  simp only [List.mem_cons, Prod.mk.injEq, List.not_mem_nil, or_false] at h
  obtain ⟨rfl, rfl⟩ | ⟨rfl, rfl⟩ := h <;> rfl

theorem Release.ofCode_of_mem {b : Byte} {release : Release}
    (h : (b, release) ∈ [((0 : Byte), Release.low), (1, .high), (2, .float)]) :
    Release.ofCode b.toNat = some release := by
  simp only [List.mem_cons, Prod.mk.injEq, List.not_mem_nil, or_false] at h
  obtain ⟨rfl, rfl⟩ | ⟨rfl, rfl⟩ | ⟨rfl, rfl⟩ := h <;> rfl

/-! ### LINE_CLAIM (R96) -/

section

variable {p : Port} {s : State} {l : LineNo} {pol rel : Byte} {polarity : Polarity} {release : Release}

theorem lineClaimBody_badArg (h : 1 < pol.toNat ∨ 2 < rel.toNat) :
    lineClaimBody p [byteOf l.val, pol, rel] s = .refuse .badArg := by
  rw [← Polarity.ofCode_eq_none_iff, ← Release.ofCode_eq_none_iff] at h
  rw [lineClaimBody, withLine_of_line, paramNat_one, paramNat_two]
  obtain hpol | hrel := h
  · rw [hpol]
  · rw [hrel]
    cases Polarity.ofCode pol.toNat <;> rfl

/-- A claim with lawful codes of a line that has an owner is refused, by whose line it is. -/
theorem lineClaimBody_of_owner {q : Port} (hpol : pol.toNat ≤ 1) (hrel : rel.toNat ≤ 2)
    (howner : (s.line l).owner = some q) :
    lineClaimBody p [byteOf l.val, pol, rel] s = .refuse (if q = p then .state else .owned) := by
  obtain ⟨polarity, hpolarity⟩ := Option.ne_none_iff_exists'.mp
    (mt Polarity.ofCode_eq_none_iff.mp (Nat.not_lt.mpr hpol))
  obtain ⟨release, hrelease⟩ := Option.ne_none_iff_exists'.mp
    (mt Release.ofCode_eq_none_iff.mp (Nat.not_lt.mpr hrel))
  rw [lineClaimBody, withLine_of_line, paramNat_one, paramNat_two, hpolarity, hrelease, apply_ite Reply.refuse]
  simp only [howner]

theorem lineClaimBody_of_free (hpol : Polarity.ofCode pol.toNat = some polarity)
    (hrel : Release.ofCode rel.toNat = some release) (howner : (s.line l).owner = none) :
    lineClaimBody p [byteOf l.val, pol, rel] s =
      .ok (s.setLine l ⟨some p, polarity, release, .inactive, .stopped⟩) [] := by
  rw [lineClaimBody, withLine_of_line, paramNat_one, paramNat_two, hpol, hrel]
  simp only [howner]

end

/-! ### LINE_RELEASE (R97) -/

section

variable {p : Port} {s : State} {l : LineNo}

/-- The slots that block a release: STAGED or ARMED, of the owner, with an action on the line. -/
theorem State.slotNames_iff {n : SlotNo} : s.slotNames p l n = true ↔
    ∃ t j, s.slot n = some t ∧ t.owner = p ∧ (t.state = .staged ∨ t.state = .armed) ∧ t.job = some j ∧
      j.line = l := by
  have hstate (x : SlotState) : x ≠ .retiring ↔ x = .staged ∨ x = .armed := by cases x <;> decide
  unfold State.slotNames
  cases s.slot n with
  | none => simp
  | some t => simp [hstate]

theorem lineReleaseBody_eq : lineReleaseBody p [byteOf l.val] s =
    if (s.line l).owner ≠ some p then .refuse .notClaimed
    else if allSlots.any (s.slotNames p l) then .refuse .inUse
    else .ok (s.setLine l (s.line l).giveUp) [] :=
  withLine_of_line l [] _

theorem lineReleaseBody_of_named {n : SlotNo} (howner : (s.line l).owner = some p) (h : s.slotNames p l n = true) :
    lineReleaseBody p [byteOf l.val] s = .refuse .inUse := by
  have hany : allSlots.any (s.slotNames p l) = true := List.any_eq_true.mpr ⟨n, List.mem_finRange n, h⟩
  rw [lineReleaseBody_eq, if_neg (not_not.mpr howner), if_pos hany]

theorem lineReleaseBody_of_notNamed (howner : (s.line l).owner = some p) (h : ∀ n, ¬ s.slotNames p l n = true) :
    lineReleaseBody p [byteOf l.val] s = .ok (s.setLine l (s.line l).giveUp) [] := by
  have hany : ¬ allSlots.any (s.slotNames p l) = true := by
    rw [List.any_eq_true]
    exact fun ⟨n, _, hn⟩ => h n hn
  rw [lineReleaseBody_eq, if_neg (not_not.mpr howner), if_neg hany]

end

/-- Settles O33: each clause meets one branch of the command's body; the pin follows from the record it leaves. -/
theorem lineClaimAndRelease : Obligations.LineClaimAndRelease := by
  intro p s req l
  refine ⟨fun pol rel hrun hps => ⟨fun hbad => ?_, fun hpol hrel => ⟨fun q hq howner => ?_, fun howner => ?_,
    fun howner polarity release hpolarity hrelease => ⟨?_, ?_⟩⟩⟩,
    fun hrun hps => ⟨fun howner => ?_, fun howner hnamed => ?_, fun howner hfree => ⟨?_, ?_⟩⟩⟩
  · refine congrArg _ (State.runCommand_refuse hrun ?_)
    rw [hps, lineClaimBody_badArg hbad]
  · refine congrArg _ (State.runCommand_refuse hrun ?_)
    rw [hps, lineClaimBody_of_owner hpol hrel howner, if_neg hq]
  · refine congrArg _ (State.runCommand_refuse hrun ?_)
    rw [hps, lineClaimBody_of_owner hpol hrel howner, if_pos rfl]
  · refine congrArg _ (State.runCommand_ok hrun ?_)
    rw [hps, lineClaimBody_of_free (Polarity.ofCode_of_mem hpolarity) (Release.ofCode_of_mem hrelease) howner]
  · cases polarity with
    | activeHigh => exact LineRec.pin_of_activeHigh rfl rfl
    | activeLow => exact LineRec.pin_of_activeLow rfl rfl
  · refine congrArg _ (State.runCommand_refuse hrun ?_)
    rw [hps, lineReleaseBody_eq, if_pos howner]
  · obtain ⟨n, hn⟩ := hnamed
    refine congrArg _ (State.runCommand_refuse hrun ?_)
    rw [hps, lineReleaseBody_of_named howner (State.slotNames_iff.mpr hn)]
  · have hnone : ∀ n, ¬ s.slotNames p l n = true := by
      intro n hn
      obtain ⟨t, j, hslot, hown, hstate, hjob, hline⟩ := State.slotNames_iff.mp hn
      exact hfree n t j hslot hown hstate hjob hline
    refine congrArg _ (State.runCommand_ok hrun ?_)
    rw [hps, lineReleaseBody_of_notNamed howner hnone]
    rfl
  · rw [LineRec.pin_of_unowned rfl]
    cases (s.line l).release <;> rfl

end Sys2Proof.Machine

/-!
PROOF. The family of the notification queues: the entry rule (O35), and NOTE_READ, NOTE_ACK and the note record (O36).
-/

namespace Sys2Proof.Machine

/-! ### The entry rule (R109, R112, R114) -/

/-- The entry a fold goes to is the one of the same source and kind (R114). -/
theorem Owed.matchesKey_iff {e : Owed} {r : Report} :
    e.matchesKey r = true ↔ e.report.source = r.source ∧ e.report.kind = r.kind := by
  simp [Owed.matchesKey]

/-- Entries of another source or kind at the head of the owed list stay as they are. -/
theorem owe_append {r : Report} {l₁ : List Owed} (l₂ : List Owed) (h : ∀ x ∈ l₁, ¬x.matchesKey r = true) :
    owe r (l₁ ++ l₂) = l₁ ++ owe r l₂ := by
  induction l₁ with
  | nil => rfl
  | cons x l₁ ih =>
    obtain ⟨hx, hrest⟩ := List.forall_mem_cons.mp h
    rw [List.cons_append, owe, if_neg hx, ih hrest, List.cons_append]

theorem owe_cons_of_matches {r : Report} {e : Owed} (l : List Owed) (h : e.matchesKey r = true) :
    owe r (e :: l) = ⟨min (e.count + 1) 65535, r⟩ :: l := if_pos h

/-- With no entry of the same source and kind, a new one stands at the tail. -/
theorem owe_of_noMatch {r : Report} {l : List Owed} (h : ∀ x ∈ l, ¬x.matchesKey r = true) :
    owe r l = l ++ [⟨1, r⟩] := by
  have happend := owe_append [] h
  rwa [List.append_nil] at happend

namespace NoteUnit

variable {u : NoteUnit} {r : Report}

theorem take_of_intakeOff (h : u.intake = false) : u.take r = u := by
  rw [take, h]
  rfl

theorem take_of_room (hon : u.intake = true) (hroom : u.queue.length < 16) (howed : u.owed = []) :
    u.take r = { u with queue := u.queue ++ [⟨u.nextSeq, 1, r⟩], nextSeq := u.nextSeq + 1, ntf := .low } := by
  rw [take, if_pos hon, if_pos ⟨hroom, howed⟩]

theorem take_of_noRoom (hon : u.intake = true) (h : 16 ≤ u.queue.length ∨ u.owed ≠ []) :
    u.take r = { u with owed := owe r u.owed } := by
  have hfull : ¬(u.queue.length < Config.queueCap ∧ u.owed = []) := by
    rintro ⟨hroom, howed⟩
    exact h.elim (Nat.not_le.mpr hroom) (· howed)
  rw [take, if_pos hon, if_neg hfull]

end NoteUnit

/-- Settles O35: the unit by intake and room, and the owed list by its first entry of the same source and kind. -/
theorem entryRuleOfNotifications : Obligations.EntryRuleOfNotifications := by
  refine fun u r => ⟨NoteUnit.take_of_intakeOff, NoteUnit.take_of_room, fun hon hnoRoom => ?_⟩
  rw [NoteUnit.take_of_noRoom hon hnoRoom]
  simp only [← Owed.matchesKey_iff]
  refine ⟨fun l₁ e l₂ howed hkey hbefore => ?_, fun hnone => ?_⟩
  · rw [howed, owe_append _ hbefore, owe_cons_of_matches _ hkey]
  · rw [owe_of_noMatch hnone]

/-! ### The note record (section 10.7) -/

namespace Note

variable (seq count : Half) (k : NoteKind) (n : SlotNo) (a : Axis) (tag epoch : Half) (pos tick : Word)

/-- The record of a note with a two-byte count, field by field. -/
theorem record_eq (r : Report) : record ⟨seq, count.toNat, r⟩ =
    le16 seq ++ [r.kindByte] ++ le16 count ++ [r.source.byte] ++ le32 r.position ++ le32 r.tick ++ le16 r.epoch ++
      r.tail := by
  rw [record, BitVec.ofNat_toNat, BitVec.setWidth_eq]

/-- A trigger kind with no successor (R111). -/
theorem record_of_trigger : record ⟨seq, count.toNat, ⟨k, .slot n, some tag, a, pos, tick, epoch, .none⟩⟩ =
    le16 seq ++ [BitVec.ofNat 8 (k.num + 8 * a.val)] ++ le16 count ++ [BitVec.ofNat 8 n.val] ++ le32 pos ++ le32 tick ++
      le16 epoch ++ (le16 tag ++ [0xFF, 0]) :=
  record_eq _ _ _

/-- A trigger kind that names a successor. -/
theorem record_of_successor (m : SlotNo) :
    record ⟨seq, count.toNat, ⟨k, .slot n, some tag, a, pos, tick, epoch, .successor m⟩⟩ =
      le16 seq ++ [BitVec.ofNat 8 (k.num + 8 * a.val)] ++ le16 count ++ [BitVec.ofNat 8 n.val] ++ le32 pos ++
        le32 tick ++ le16 epoch ++ (le16 tag ++ [BitVec.ofNat 8 m.val, 0]) :=
  record_eq _ _ _

/-- An axis kind other than REREF. -/
theorem record_of_axis : record ⟨seq, count.toNat, ⟨k, .axis a, none, a, pos, tick, epoch, .none⟩⟩ =
    le16 seq ++ [BitVec.ofNat 8 (k.num + 8 * a.val)] ++ le16 count ++ [BitVec.ofNat 8 a.val] ++ le32 pos ++ le32 tick ++
      le16 epoch ++ [0, 0, 0, 0] :=
  record_eq _ _ _

/-- A REREF, which holds the reason in its kind byte and the old position at its tail. -/
theorem record_of_reref (old : Word) (reason : Reason) :
    record ⟨seq, count.toNat, ⟨k, .axis a, none, a, pos, tick, epoch, .reref old reason⟩⟩ =
      le16 seq ++ [BitVec.ofNat 8 (k.num + 8 * a.val + 32 * reason.num)] ++ le16 count ++ [BitVec.ofNat 8 a.val] ++
        le32 pos ++ le32 tick ++ le16 epoch ++ le32 old :=
  record_eq _ _ _

end Note

/-! ### NOTE_READ (R117) -/

section

variable {p : Port} {s : State} {max : Byte}

theorem noteReadBody_range (h : max = 0 ∨ 4 < max.toNat) : noteReadBody p [max] s = .refuse .range := by
  refine if_pos (h.imp_left fun hzero => ?_)
  rw [hzero]
  rfl

theorem noteReadBody_ok (hlow : 1 ≤ max.toNat) (hhigh : max.toNat ≤ 4) :
    noteReadBody p [max] s = .ok s (((s.note p).queue.take max.toNat).flatMap Note.record) :=
  if_neg (not_or.mpr ⟨Nat.ne_of_gt hlow, Nat.not_lt.mpr hhigh⟩)

end

/-! ### NOTE_ACK (R118 to R120) -/

/-- What an acknowledgement that leaves `m` makes of the part: the unit after the move, and a message for each slot
whose last owed entry moved (R44, R119). -/
def State.acknowledged (p : Port) (m : Moved) (s : State) : State :=
  m.freed.foldl (fun s n => s.lastOwedMoved n) (s.setNote p ((s.note p).afterMove m))

section

variable {p : Port} {s : State} {q : Half}

/-- The parameters of NOTE_ACK hold the number it names. -/
@[simp] theorem paramHalf_le16 (w : Half) : paramHalf (le16 w) 0 = w := half_of_bytes w

theorem noteAckBody_of_noMatch (h : ∀ n ∈ (s.note p).queue, n.seq ≠ q) :
    noteAckBody p (le16 q) s = .refuse .seqUnknown := by
  have hfind : (s.note p).queue.findIdx? (fun n => n.seq = q) = none := by simpa using h
  rw [noteAckBody, paramHalf_le16, hfind]

/-- The first note with the number named goes, with all before it, and the move fills the room (R118, R119). -/
theorem noteAckBody_of_match {l₁ l₂ : List Note} {x : Note} (hqueue : (s.note p).queue = l₁ ++ x :: l₂)
    (hx : x.seq = q) (hbefore : ∀ n ∈ l₁, n.seq ≠ q) {m : Moved}
    (hm : m = moveOwed l₂ (s.note p).nextSeq (s.note p).owed) :
    noteAckBody p (le16 q) s = .ok (s.acknowledged p m)
      ([byteOf (l₁.length + 1), byteOf ((s.note p).owed.length - m.owed.length), byteOf m.queue.length] ++
        le16 (BitVec.ofNat 16 m.owed.length)) := by
  have hhead : l₁.findIdx? (fun n => n.seq = q) = none := by simpa using hbefore
  have hfind : (s.note p).queue.findIdx? (fun n => n.seq = q) = some l₁.length := by
    simp [hqueue, List.findIdx?_append, hhead, List.findIdx?_cons, hx]
  have hleft : (s.note p).removed (l₁.length + 1) = m := by
    rw [hm, NoteUnit.removed, hqueue, List.append_cons, List.drop_left' (by simp)]
  rw [noteAckBody, paramHalf_le16, hfind, ← hleft]
  rfl

end

namespace State

variable (s : State) (p : Port) (m : Moved)

/-- The messages reach the table alone, so the units stand as the move left them (R44). -/
theorem acknowledged_notes : (s.acknowledged p m).notes = (s.setNote p ((s.note p).afterMove m)).notes :=
  foldl_keeps _ (·.notes) lastOwedMoved_notes _ _

theorem acknowledged_note_self : (s.acknowledged p m).note p = (s.note p).afterMove m := by
  rw [note, acknowledged_notes]
  exact setNote_note_self s p _

theorem acknowledged_note_ne {o : Port} (h : o ≠ p) : (s.acknowledged p m).note o = s.note o := by
  rw [note, acknowledged_notes]
  exact setNote_note_ne s p _ h

theorem acknowledged_armLists : (s.acknowledged p m).armLists = s.armLists :=
  foldl_keeps _ (·.armLists) lastOwedMoved_armLists _ _

theorem acknowledged_sameLines : SameLines s (s.acknowledged p m) :=
  foldl_keeps _ (·.lines) lastOwedMoved_lines _ _

theorem acknowledged_sameAxes : SameAxes s (s.acknowledged p m) :=
  ⟨foldl_keeps _ (·.axes) lastOwedMoved_axes _ _, foldl_keeps _ (·.pins) lastOwedMoved_pins _ _⟩

variable {m}

/-- The RETIRING slots among those whose last owed entry moved are FREE (R44). -/
theorem acknowledged_slot (hm : m.freed.Nodup) (n : SlotNo) : (s.acknowledged p m).slot n =
    if n ∈ m.freed ∧ (s.slot n).any (fun u => u.state = .retiring) = true then none else s.slot n :=
  (foldl_lastOwedMoved m.freed (s.setNote p ((s.note p).afterMove m)) hm).1 n

/-- Each port's held count falls by the number of its slots that became FREE (R44, R46). -/
theorem acknowledged_heldBy (hm : m.freed.Nodup) (o : Port) : (s.acknowledged p m).heldBy o = s.heldBy o -
    (allSlots.filter fun n => s.ownsSlot o n && ((s.acknowledged p m).slot n).isNone).length := by
  have hperm : (m.freed.filter fun n => (s.slot n).any fun u => u.state = .retiring ∧ u.owner = o).Perm
      (allSlots.filter fun n => s.ownsSlot o n && ((s.acknowledged p m).slot n).isNone) := by
    refine (List.perm_ext_iff_of_nodup (hm.filter _) ((List.nodup_finRange 96).filter _)).mpr fun n => ?_
    rw [List.mem_filter, List.mem_filter, acknowledged_slot s p hm, ownsSlot]
    cases s.slot n with
    | none => simp
    | some u => simp [and_comm, and_assoc]
  rw [← hperm.length_eq]
  exact (foldl_lastOwedMoved m.freed (s.setNote p ((s.note p).afterMove m)) hm).2 o

end State

/-- NTF is low while the queue holds a note (R121). -/
theorem ntfOf_eq (l : List Note) : ntfOf l = if l = [] then .high else .low := by
  cases l <;> rfl

/-- Settles O36: the record by the form of its report; the bodies of the two commands; the part after an
acknowledgement by what the move leaves (`moveOwed_spec`). -/
theorem noteReadAndAck : Obligations.NoteReadAndAck := by
  refine ⟨fun seq count n m a tag epoch pos tick old => ⟨fun kc hkc => ?_, ?_, fun kc hkc => ?_, fun rc hrc => ?_⟩,
    fun p s req => ⟨fun max hrun hps => ⟨fun hout => ?_, fun hlow hhigh => ?_⟩,
      fun q hrun hps => ⟨fun hnone => ?_, ?_⟩⟩⟩
  · have hnum : ∀ kc ∈ [(NoteKind.fire, 0), (.rerefDisarm, 2)], kc.1.num = kc.2 := by decide
    rw [Note.record_of_trigger, hnum kc hkc]
  · exact Note.record_of_successor ..
  · have hnum : ∀ kc ∈ [(NoteKind.motion, 3), (.still, 4), (.doubt, 6)], kc.1.num = kc.2 := by decide
    rw [Note.record_of_axis, hnum kc hkc]
  · have hnum : ∀ rc ∈ [(Reason.home, 0), (.index, 1), (.preset, 2), (.config, 3)], rc.1.num = rc.2 := by decide
    rw [Note.record_of_reref, hnum rc hrc]
    rfl
  · refine congrArg _ (State.runCommand_refuse hrun ?_)
    rw [hps, noteReadBody_range hout]
  · refine congrArg _ (State.runCommand_ok hrun ?_)
    rw [hps, noteReadBody_ok hlow hhigh]
  · refine congrArg _ (State.runCommand_refuse hrun ?_)
    rw [hps, noteAckBody_of_noMatch hnone]
  · intro l₁ x l₂ k moved hqueue hx hbefore hk hmoved
    obtain ⟨mqueue, mseq, mowed, mfreed, mnodup⟩ := moveOwed_spec _ l₂ (s.note p).nextSeq k hk
    generalize hm : moveOwed l₂ (s.note p).nextSeq (s.note p).owed = m at *
    have hmqueue : m.queue = l₂ ++ moved := by rw [mqueue, hmoved]; rfl
    have hklen : k ≤ (s.note p).owed.length := hk ▸ Nat.min_le_right _ _
    have hmlen : m.queue.length = l₂.length + k := by
      rw [mqueue, List.length_append, movedNotes_length, List.length_take_of_le hklen]
    refine ⟨s.acknowledged p m, congrArg _ (State.runCommand_ok hrun ?_), ?_, fun n => ?_,
      s.acknowledged_heldBy p mnodup, fun o ho => s.acknowledged_note_ne p m ho, s.acknowledged_armLists p m,
      s.acknowledged_sameLines p m, s.acknowledged_sameAxes p m⟩
    · rw [hps, noteAckBody_of_match hqueue hx hbefore hm.symm, hmlen, mowed, List.length_drop, Nat.sub_sub_self hklen]
    · rw [s.acknowledged_note_self, NoteUnit.afterMove, hmqueue, mseq, mowed, ntfOf_eq]
    · rw [s.acknowledged_slot p mnodup]
      cases s.slot n with
      | none => exact if_neg (by simp)
      | some u =>
        refine if_congr ?_ rfl rfl
        rw [mfreed, Option.any_some, decide_eq_true_eq, and_comm]

end Sys2Proof.Machine

/-!
PROOF. The family of snapshots and subscriptions: SUBSCRIBE and the masks after a device reset (O38).
-/

namespace Sys2Proof.Machine

/-! ### SUBSCRIBE (R140) -/

section

variable {p : Port} {s : State} {a mask : Byte}

@[simp] theorem paramNat_zero (b : Byte) (ps : List Byte) : paramNat (b :: ps) 0 = b.toNat := rfl

/-- An axis number or a mask past its range is refused. -/
theorem subscribeBody_range (h : 3 < a.toNat ∨ 15 < mask.toNat) :
    subscribeBody p [a, mask] s = .refuse .range := by
  rw [subscribeBody, paramNat_zero, paramNat_one]
  cases haxis : below 4 a.toNat with
  | none => rfl
  | some b =>
    have hle : a.toNat ≤ 3 := below_eq_some.mp haxis ▸ Nat.le_of_lt_succ b.isLt
    exact if_pos (h.resolve_left (Nat.not_lt.mpr hle))

/-- SUBSCRIBE within its ranges: the one mask replaced, and the mask before in the response. -/
theorem subscribeBody_ok {b : Axis} (haxis : a.toNat = b.val) (hmask : mask.toNat ≤ 15) :
    subscribeBody p [a, mask] s =
      .ok (s.setView p { s.view p with masks := (s.view p).masks.set b (mask.setWidth 4) })
        [(s.view p).masks[b].setWidth 8] := by
  rw [subscribeBody, paramNat_zero, paramNat_one, below_eq_some.mpr haxis]
  refine (if_neg (Nat.not_lt.mpr hmask)).trans ?_
  rw [byteOf, BitVec.ofNat_toNat, BitVec.ofNat_toNat]

end

/-- Settles O38: the two outcomes of the command's body; the views after a device reset are those of `State.reset`. -/
theorem subscribeReplacesOneMask : Obligations.SubscribeReplacesOneMask := by
  refine ⟨fun p s req a mask hrun hps => ⟨fun hout => ?_, fun b haxis hmask => ?_⟩, fun source s => ?_⟩
  · refine congrArg _ (State.runCommand_refuse hrun ?_)
    rw [hps, subscribeBody_range hout]
  · refine congrArg _ (State.runCommand_ok hrun ?_)
    rw [hps, subscribeBody_ok haxis hmask]
  · have hview : ∀ p, (s.underReset source).view p = .resetAt 0 := State.reset_view
    refine ⟨_, exec_deviceReset source s, fun p a => ?_⟩
    rw [hview]
    exact (View.resetAt_get 0 a).2

end Sys2Proof.Machine

/-!
PROOF. The family of sessions and claims: OPEN (O39), STATUS, AXIS_CLAIM and AXIS_RELEASE (O43).
-/

namespace Sys2Proof.Machine

/-! ### The parts of an accepted OPEN (R149, R150) -/

/-- The keepalive timer of a new session: stopped for K = 0, or running K milliseconds in ticks (R149, R154). -/
theorem Timer.load_ticksPerMs (k : Half) :
    Timer.load (k.toNat * Config.ticksPerMs) = if k = 0 then .stopped else .running (k.toNat * 1000) := by
  have hzero : k.toNat * Config.ticksPerMs = 0 ↔ k = 0 := by
    rw [Nat.mul_eq_zero, or_iff_left (by decide), BitVec.toNat_eq]
    rfl
  exact if_congr hzero rfl rfl

/-- The part after an accepted OPEN of port `p`: the quota reserved, the session opened, intake ON with the numbers
from 0, and the view reset (R149, R128, R143). -/
def State.openSession (p : Port) (k quota : Nat) (s : State) : State :=
  (({ s with unreserved := s.unreserved - quota : State }.setSession p ((s.session p).opened k quota)).setNote p
    { s.note p with intake := true, nextSeq := 0 }).setView p (.resetAt s.tick)

namespace State

variable (s : State) (p : Port) (k quota : Nat)

@[simp] theorem openSession_unreserved : (s.openSession p k quota).unreserved = s.unreserved - quota := rfl

@[simp] theorem openSession_session_self : (s.openSession p k quota).session p = (s.session p).opened k quota :=
  setSession_session_self _ _ _

@[simp] theorem openSession_note_self :
    (s.openSession p k quota).note p = { s.note p with intake := true, nextSeq := 0 } :=
  setNote_note_self _ _ _

@[simp] theorem openSession_view_self : (s.openSession p k quota).view p = .resetAt s.tick :=
  setView_view_self _ _ _

variable {p} in
/-- An OPEN leaves the other ports' sessions, units and views as they are. -/
theorem openSession_otherPort {q : Port} (h : q ≠ p) :
    (s.openSession p k quota).session q = s.session q ∧ (s.openSession p k quota).note q = s.note q ∧
      (s.openSession p k quota).view q = s.view q :=
  ⟨setSession_session_ne _ _ _ h, setNote_note_ne _ _ _ h, setView_view_ne _ _ _ h⟩

/-- An OPEN works on the session manager, the port's notification unit and its view alone. -/
theorem openSession_outside :
    SameTime s (s.openSession p k quota) ∧ SameAxes s (s.openSession p k quota) ∧
      SameTable s (s.openSession p k quota) ∧ SameLines s (s.openSession p k quota) ∧
      SameRights s (s.openSession p k quota) ∧ SameLinks s (s.openSession p k quota) ∧
      SameArbiter s (s.openSession p k quota) :=
  ⟨⟨rfl, rfl, rfl, rfl⟩, ⟨rfl, rfl⟩, ⟨rfl, rfl, rfl, rfl, rfl⟩, rfl, rfl, rfl, ⟨rfl, rfl, rfl⟩⟩

end State

/-! ### OPEN (R148 to R150) -/

theorem Session.not_opened_of_closed {r : Session} (h : r.state = .closed) : r.state ≠ .opened := by
  rw [h]
  exact nofun

section

variable {p : Port} {s : State} {k : Half} {quota : Byte}

/-- A two-byte field at the head of the parameters, whatever follows it. -/
@[simp] theorem paramHalf_le16_append (w : Half) (ps : List Byte) : paramHalf (le16 w ++ ps) 0 = w := half_of_bytes w

@[simp] theorem paramNat_le16_append (w : Half) (b : Byte) (ps : List Byte) :
    paramNat (le16 w ++ b :: ps) 2 = b.toNat := rfl

/-- OPEN's checks in the order of R148, and what stands behind them. -/
theorem openBody_eq : openBody p (le16 k ++ [quota]) s =
    if (s.session p).state = .opened then .refuse .sessionOpen
    else if 96 < quota.toNat then .refuse .badArg
    else if s.unreserved < quota.toNat then .refuse .noRoom
    else .ok (s.openSession p k.toNat quota.toNat) (le16 ((s.session p).number + 1) ++
      [yesNo (s.session p).fresh, yesNo (s.session p).lost, s.resetCause.code]) := by
  rw [openBody, paramHalf_le16_append, paramNat_le16_append]
  rfl

end

/-- Settles O39: each refusal is one check of the body; what an accepted OPEN starts and leaves is read off
`State.openSession`. -/
theorem openStartsASession : Obligations.OpenStartsASession := by
  refine fun p s req k quota hrun hps => ⟨fun hopen => ?_, fun hclosed hover => ?_, fun hclosed hle hroom => ?_,
    fun hclosed hle hroom => ⟨s.openSession p k.toNat quota.toNat, ?_, ?_, ?_, s.openSession_note_self p _ _,
      fun a => ?_, fun q => s.openSession_otherPort _ _, s.openSession_outside p _ _⟩⟩
  · refine congrArg _ (State.runCommand_refuse hrun ?_)
    rw [hps, openBody_eq, if_pos hopen]
  · refine congrArg _ (State.runCommand_refuse hrun ?_)
    rw [hps, openBody_eq, if_neg (Session.not_opened_of_closed hclosed), if_pos hover]
  · refine congrArg _ (State.runCommand_refuse hrun ?_)
    rw [hps, openBody_eq, if_neg (Session.not_opened_of_closed hclosed), if_neg (Nat.not_lt.mpr hle), if_pos hroom]
  · refine congrArg _ (State.runCommand_ok hrun ?_)
    rw [hps, openBody_eq, if_neg (Session.not_opened_of_closed hclosed), if_neg (Nat.not_lt.mpr hle), if_neg (Nat.not_lt.mpr hroom)]
    cases s.resetCause <;> rfl
  · rw [s.openSession_session_self, Session.opened, Timer.load_ticksPerMs]
  · rw [s.openSession_unreserved, Nat.sub_add_cancel hroom]
  · rw [s.openSession_view_self]
    exact View.resetAt_get s.tick a

/-! ### STATUS (R153) -/

/-- STATUS's response, byte by byte. -/
theorem statusBody_eq (p : Port) (ps : List Byte) (s : State) : statusBody p ps s = .ok s (
    [(s.session .a).state.code, (s.session .b).state.code, (s.session .c).state.code]
      ++ le16 (s.session .a).number ++ le16 (s.session .b).number ++ le16 (s.session .c).number
      ++ [byteOf s.unreserved, byteOf (allSlots.filter fun n => (s.slot n).isNone).length,
        portCode (s.line 0).owner, portCode (s.line 1).owner, portCode (s.line 2).owner, portCode (s.line 3).owner,
        portCode (s.line 4).owner, portCode (s.line 5).owner, portCode (s.line 6).owner, portCode (s.line 7).owner,
        portCode (s.axisRight 0), portCode (s.axisRight 1), portCode (s.axisRight 2), portCode (s.axisRight 3),
        byteOf (s.note p).queue.length]) := by
  rw [statusBody, State.freeSlots, List.countP_eq_length_filter]
  rfl

/-! ### AXIS_CLAIM and AXIS_RELEASE (R159, R160) -/

section

variable {p : Port} {s : State} {a : Byte} {b : Axis}

theorem axisClaimBody_range (h : 3 < a.toNat) : axisClaimBody p [a] s = .refuse .range := by
  rw [axisClaimBody, paramNat_zero, below_of_le h]

/-- A claim of a right that has an owner is refused, by whose right it is. -/
theorem axisClaimBody_of_owner {q : Port} (haxis : a.toNat = b.val) (howner : s.axisRight b = some q) :
    axisClaimBody p [a] s = .refuse (if q = p then .state else .owned) := by
  rw [axisClaimBody, paramNat_zero, below_eq_some.mpr haxis, apply_ite Reply.refuse]
  simp only [howner]

theorem axisClaimBody_of_free (haxis : a.toNat = b.val) (hfree : s.axisRight b = none) :
    axisClaimBody p [a] s = .ok (s.setAxisRight b (some p)) [] := by
  rw [axisClaimBody, paramNat_zero, below_eq_some.mpr haxis]
  simp only [hfree]

theorem axisReleaseBody_range (h : 3 < a.toNat) : axisReleaseBody p [a] s = .refuse .range := by
  rw [axisReleaseBody, paramNat_zero, below_of_le h]

/-- A release of an axis there is turns on whether the port owns the right. -/
theorem axisReleaseBody_of_axis (haxis : a.toNat = b.val) : axisReleaseBody p [a] s =
    if s.axisRight b ≠ some p then .refuse .notClaimed else .ok (s.setAxisRight b none) [] := by
  rw [axisReleaseBody, paramNat_zero, below_eq_some.mpr haxis]

end

/-- Settles O43: STATUS by its response; a claim by the axis number and the right's owner; a release by the axis number
and whether the port is the owner. -/
theorem statusAndAxisRights : Obligations.StatusAndAxisRights := by
  refine fun p s req => ⟨fun hrun => ?_,
    fun a hrun hps => ⟨fun hrange => ?_, fun b haxis => ⟨fun q hq howner => ?_, fun howner => ?_, fun hfree => ?_⟩⟩,
    fun a hrun hps => ⟨fun hrange => ?_, fun b haxis => ⟨fun hother => ?_, fun howner => ?_⟩⟩⟩
  · exact congrArg _ (State.runCommand_ok hrun (statusBody_eq p req.params s))
  · refine congrArg _ (State.runCommand_refuse hrun ?_)
    rw [hps, axisClaimBody_range hrange]
  · refine congrArg _ (State.runCommand_refuse hrun ?_)
    rw [hps, axisClaimBody_of_owner haxis howner, if_neg hq]
  · refine congrArg _ (State.runCommand_refuse hrun ?_)
    rw [hps, axisClaimBody_of_owner haxis howner, if_pos rfl]
  · refine congrArg _ (State.runCommand_ok hrun ?_)
    rw [hps, axisClaimBody_of_free haxis hfree]
  · refine congrArg _ (State.runCommand_refuse hrun ?_)
    rw [hps, axisReleaseBody_range hrange]
  · refine congrArg _ (State.runCommand_refuse hrun ?_)
    rw [hps, axisReleaseBody_of_axis haxis, if_pos hother]
  · refine congrArg _ (State.runCommand_ok hrun ?_)
    rw [hps, axisReleaseBody_of_axis haxis, if_neg (not_not.mpr howner)]

end Sys2Proof.Machine

/-!
PROOF. The family of the port link protocol: a device reset at the links (O4), the verdicts at the end of a transaction
(O45, O46) and the common checks with NOP (O48).
-/

namespace Sys2Proof.Machine

/-! ### Things by port written over -/

theorem PerPort.set_set {α : Type} (x : PerPort α) (p : Port) (v w : α) : (x.set p v).set p w = x.set p w := by
  cases p <;> rfl

theorem PerPort.set_get {α : Type} (x : PerPort α) (p : Port) : x.set p (x.get p) = x := by
  cases p <;> rfl

namespace State

variable (s : State) (p : Port)

@[simp] theorem setLink_setLink (l m : Link) : (s.setLink p l).setLink p m = s.setLink p m := by
  simp [setLink, PerPort.set_set]

@[simp] theorem setSession_session_same : s.setSession p (s.session p) = s := by
  simp [setSession, session, PerPort.set_get]

end State

/-! ### The verdict on a transaction (R167) -/

section

variable {bytes : List Byte}

theorem verdictOf_request (h : bytes.head? = some 0x5A) : verdictOf bytes = .request := if_pos h

/-- Eight whole bytes of 0xFF do not begin with SYNC. -/
theorem verdictOf_resync (h : 8 ≤ bytes.length ∧ ∀ b ∈ bytes, b = 0xFF) : verdictOf bytes = .resync := by
  have hsync : bytes.head? ≠ some Config.requestSync := fun hhead => by
    obtain ⟨-, hones⟩ := h
    exact absurd (hones _ (List.mem_of_head? hhead)) (by decide)
  rw [verdictOf, if_neg hsync, if_pos (by simpa using h)]

theorem verdictOf_poll (hsync : bytes.head? ≠ some 0x5A) (h : ¬(8 ≤ bytes.length ∧ ∀ b ∈ bytes, b = 0xFF)) :
    verdictOf bytes = .poll := by
  rw [verdictOf, if_neg hsync, if_neg (by simpa using h)]

end

/-! ### The end of a transaction (R165, R167) -/

section

variable {p : Port} {bits : List Bool} {s : State}

theorem exec_poll (h : verdictOf (wholeBytes bits) = .poll) :
    exec (.poll p bits) s = .next (s.endTransaction p id) :=
  congrArg _ (if_pos h)

theorem exec_resync (h : verdictOf (wholeBytes bits) = .resync) :
    exec (.resync p bits) s = .next (s.endTransaction p fun s => s.setLink p (s.link p).resynced) :=
  congrArg _ (if_pos h)

theorem exec_requestFrame (h : verdictOf (wholeBytes bits) = .request) :
    exec (.requestFrame p bits) s = .next (s.endTransaction p (State.judgeFrame p (wholeBytes bits))) :=
  congrArg _ (if_pos h)

namespace State

variable {work : State → State}

theorem endTransaction_of_inTransaction (h : (s.link p).inTransaction = true) :
    s.endTransaction p work = work (s.setLink p (s.link p).deselect) :=
  if_pos h

/-- Without a transaction the rise of select is all that happens, whatever the bits (R165, R178). -/
theorem endTransaction_of_noTransaction (h : (s.link p).inTransaction = false) (hframe : (s.link p).outFrame = []) :
    s.endTransaction p work = s.setLink p { s.link p with selectLow := false } := by
  simp [endTransaction, Link.deselect, h, ← hframe]

end State

end

/-! ### Device reset of sessions, links and arbiter (R146, R178) -/

theorem exec_resetRelease (s : State) : exec .resetRelease s = .next { s with inReset := false } := rfl

/-- A select line that is low already does not fall (R165). -/
theorem exec_transactionStart_of_low {p : Port} {s : State} (h : (s.link p).selectLow = true) :
    exec (.transactionStart p) s = .next s :=
  congrArg _ (if_pos h)

namespace State

theorem underReset_link (source : ResetSource) (s : State) (p : Port) :
    (s.underReset source).link p = (s.link p).resetKeepingSelect := by
  cases p <;> rfl

theorem dataOut_of_inReset {s : State} (h : s.inReset = true) (p : Port) (k : Nat) : s.dataOut p k = .highImpedance :=
  if_pos h

/-- What a port shows of itself after a device reset: STATE 0x02, an empty queue, SLOT EMPTY, REJECT NONE (R145). -/
theorem frameBody_of_reset {s : State} {p : Port} {l : Link} (hsession : s.session p = .reset)
    (hnote : s.note p = .reset) (hlink : s.link p = l.resetKeepingSelect) :
    s.frameBody p = [0x02, 0, 0, 0, 0, 0, 0, 0] := by
  rw [frameBody, hsession, hnote, hlink]
  rfl

end State

/-- Settles O4: the values are those of `State.underReset`; a reset link has no transaction, and the release does not
touch sessions, links and notification units. -/
theorem deviceResetOfSessionsAndLinks : Obligations.DeviceResetOfSessionsAndLinks := by
  intro source s
  refine ⟨s.underReset source, exec_deviceReset source s, State.reset_session, rfl, rfl, PerPort.get_all false, rfl,
    s.underReset_link source, State.dataOut_of_inReset rfl, fun u hu => ?_⟩
  have hkept : ∀ p, u.session p = .reset ∧ u.note p = .reset ∧ u.link p = (s.link p).resetKeepingSelect := by
    have ht := fun p => And.intro (State.reset_session p) (And.intro (State.reset_note p) (s.underReset_link source p))
    obtain rfl | hrelease := hu
    · exact ht
    · rw [exec_resetRelease] at hrelease
      cases hrelease
      exact ht
  have hend : ∀ p work, u.endTransaction p work = u.setLink p { u.link p with selectLow := false } := fun p work => by
    obtain ⟨-, -, hlink⟩ := hkept p
    exact State.endTransaction_of_noTransaction (by rw [hlink]; rfl) (by rw [hlink]; rfl)
  refine ⟨fun p => ?_, fun p bits hv => ?_, fun p bits hv => ?_, fun p bits hv => ?_,
    fun p => exec_transactionStart_of_low⟩
  · obtain ⟨hsession, hnote, hlink⟩ := hkept p
    exact State.frameBody_of_reset hsession hnote hlink
  · rw [exec_requestFrame hv, hend]
  · rw [exec_resync hv, hend]
  · rw [exec_poll hv, hend]

/-! ### Poll and resync (R167, R168) -/

namespace Link

variable {l : Link}

theorem resynced_of_empty (h : l.slot = .empty) :
    l.resynced = { l with reject := .none, rejectTag := 0, heldRequest := none } := by
  simp [resynced, h]

theorem resynced_of_ready (h : l.slot = .ready) :
    l.resynced =
      { l with reject := .none, rejectTag := 0, heldRequest := none, slot := .empty, heldResponse := none } := by
  simp [resynced, h]

theorem resynced_of_pending (h : l.slot = .pending) :
    l.resynced = { l with reject := .none, rejectTag := 0, heldRequest := none, discard := true } := by
  simp [resynced, h]

end Link

/-- Settles O45: the verdict by the bytes, then the end of the transaction with nothing or with `Link.resynced`. -/
theorem pollAndResync : Obligations.PollAndResync := by
  intro p s bits bytes l htrans hbytes hl
  subst hbytes
  refine ⟨fun hsync hshort => ?_, fun hones => ?_⟩
  · rw [exec_poll (verdictOf_poll hsync hshort), State.endTransaction_of_inTransaction htrans, hl]
    rfl
  · have hexec : exec (.resync p bits) s = .next (s.setLink p l.resynced) := by
      rw [exec_resync (verdictOf_resync hones), State.endTransaction_of_inTransaction htrans, State.setLink_link_self,
        State.setLink_setLink, hl]
      rfl
    refine ⟨fun hslot => ?_, fun hslot => ?_, fun hslot => ?_⟩
    · rw [hexec, Link.resynced_of_empty hslot]
    · rw [hexec, Link.resynced_of_ready hslot]
    · rw [hexec, Link.resynced_of_pending hslot]

/-! ### The checks of a request frame (R169) -/

/-- The LENGTH check fails: no LENGTH byte, more than 24 parameters, or fewer bytes than LENGTH calls for. -/
def LengthFails (bytes : List Byte) : Prop :=
  bytes.length < 2 ∨ 24 < (bytes.getD 1 0).toNat ∨ bytes.length < (bytes.getD 1 0).toNat + 5

/-- The CRC check passes: the byte behind the parameters is the CRC of the bytes from LENGTH up to it. -/
def CrcAgrees (bytes : List Byte) : Prop :=
  crc8 ((bytes.drop 1).take ((bytes.getD 1 0).toNat + 3)) = bytes.getD ((bytes.getD 1 0).toNat + 4) 0

/-- The check in the terms of `parseFrame`, which takes SYNC and LENGTH off first. -/
theorem lengthFails_cons {sync len : Byte} {rest : List Byte} :
    LengthFails (sync :: len :: rest) ↔ Config.maxParams < len.toNat ∨ rest.length + 2 < len.toNat + 5 := by
  simp [LengthFails]

theorem parseFrame_of_length {bytes : List Byte} (h : LengthFails bytes) :
    parseFrame bytes = .refused .length (bytes.getD 2 0) := by
  match bytes with
  | [] | [_] => rfl
  | _ :: _ :: _ => exact if_pos (lengthFails_cons.mp h)

theorem parseFrame_of_crc {bytes : List Byte} (h : ¬LengthFails bytes) (hcrc : ¬CrcAgrees bytes) :
    parseFrame bytes = .refused .crc (bytes.getD 2 0) := by
  match bytes with
  | [] | [_] => exact absurd (.inl (by simp)) h
  | _ :: _ :: _ => exact (if_neg (mt lengthFails_cons.mpr h)).trans (if_neg hcrc)

theorem parseFrame_of_valid {bytes : List Byte} (h : ¬LengthFails bytes) (hcrc : CrcAgrees bytes) :
    parseFrame bytes =
      .valid ⟨bytes.getD 2 0, bytes.getD 3 0, (bytes.drop 4).take (bytes.getD 1 0).toNat⟩ := by
  match bytes with
  | [] | [_] => exact absurd (.inl (by simp)) h
  | _ :: _ :: _ => exact (if_neg (mt lengthFails_cons.mpr h)).trans (if_pos hcrc)

/-! ### A valid request frame (R154, R170, R171) -/

theorem Session.reload_purge (r : Session) : r.reload.purge = r.purge := by
  unfold reload
  split <;> rfl

namespace State

variable {s : State} {p : Port} {req : Request}

/-- The keepalive reload in ticks (R2, R154). -/
theorem setSession_reload (s : State) (p : Port) : s.setSession p (s.session p).reload =
    if (s.session p).state = .opened ∧ (s.session p).purge = none ∧ (s.session p).keepalive ≠ 0 then
      s.setSession p { s.session p with timer := .running ((s.session p).keepalive * 1000) }
    else s := by
  unfold Session.reload
  split
  next h =>
    obtain ⟨-, -, hkeepalive⟩ := h
    rw [Timer.load, if_neg (Nat.mul_ne_zero hkeepalive (by decide))]
  next => exact s.setSession_session_same p

theorem judgeFrame_of_refused {bytes : List Byte} {reason : Reject} {tag : Byte}
    (h : parseFrame bytes = .refused reason tag) :
    s.judgeFrame p bytes = s.setLink p { s.link p with reject := reason, rejectTag := tag } := by
  simp [judgeFrame, h]

theorem judgeFrame_of_valid {bytes : List Byte} (h : parseFrame bytes = .valid req) :
    s.judgeFrame p bytes = (s.setSession p (s.session p).reload).takeFrame p req := by
  simp [judgeFrame, h]

theorem takeFrame_of_pending (h : (s.link p).slot = .pending) :
    s.takeFrame p req = s.setLink p { s.link p with reject := .pending, rejectTag := req.tag } := by
  simp [takeFrame, h]

/-- The held request sent again: its response stays for the next transaction (R171). -/
theorem takeFrame_of_replay (h : (s.link p).slot = .ready) (hreq : (s.link p).heldRequest = some req) :
    s.takeFrame p req = s.setLink p { s.link p with reject := .none, rejectTag := 0 } := by
  simp [takeFrame, h, hreq]

theorem takeFrame_of_new
    (h : (s.link p).slot = .empty ∨ ((s.link p).slot = .ready ∧ (s.link p).heldRequest ≠ some req)) :
    s.takeFrame p req = s.acceptRequest p req := by
  obtain hempty | ⟨hready, hreq⟩ := h
  · simp [takeFrame, hempty]
  · simp [takeFrame, hready, hreq]

/-- An accepted command is held while the session is ending (R173). -/
theorem acceptRequest_eq (s : State) (p : Port) (req : Request) : s.acceptRequest p req =
    if (s.session p).purge = none then (s.setLink p ((s.link p).accept req)).startOnWay p req
    else s.setLink p ((s.link p).accept req) := by
  cases h : (s.session p).purge <;> simp [acceptRequest, h]

end State

/-- Settles O46: the frame is parsed by its checks; a valid one reloads the timer, and `State.takeFrame` goes by the
slot of the link unit at the end of the transaction. -/
theorem requestFrameVerdict : Obligations.RequestFrameVerdict := by
  intro p s s₁ s₂ s₃ bits bytes len l req htrans hbytes hsync hlen hl hreq h₁ h₂ h₃
  subst hlen
  have hexec : exec (.requestFrame p bits) s = .next (s₁.judgeFrame p bytes) := by
    subst hbytes
    rw [exec_requestFrame (verdictOf_request hsync), State.endTransaction_of_inTransaction htrans, h₁, hl]
    rfl
  have hrefused : ∀ reason tag, parseFrame bytes = .refused reason tag →
      exec (.requestFrame p bits) s = .next (s.setLink p { l with reject := reason, rejectTag := tag }) :=
    fun reason tag hparse => by
      rw [hexec, State.judgeFrame_of_refused hparse, h₁, State.setLink_link_self, State.setLink_setLink]
  have hreload : s₁.setSession p (s₁.session p).reload = s₂ := by
    rw [h₂, State.setSession_reload, h₁]
    rfl
  have hlink : s₂.link p = l := by
    rw [← hreload, State.setSession_link, h₁, State.setLink_link_self]
  have hpurge : (s₂.session p).purge = (s.session p).purge := by
    rw [← hreload, State.setSession_session_self, Session.reload_purge, h₁, State.setLink_session]
  refine ⟨fun hlength => hrefused _ _ (parseFrame_of_length hlength), fun htwo hmost hwhole => ?_⟩
  have hlength : ¬LengthFails bytes := by
    unfold LengthFails
    omega
  refine ⟨fun hcrc => hrefused _ _ (parseFrame_of_crc hlength hcrc), fun hcrc => ?_⟩
  have htake : exec (.requestFrame p bits) s = .next (s₂.takeFrame p req) := by
    rw [hexec, State.judgeFrame_of_valid (parseFrame_of_valid hlength hcrc), hreload, hreq]
  refine ⟨fun hslot => ?_, fun hslot hsame => ?_, fun hnew => ?_⟩
  · rw [htake, State.takeFrame_of_pending (hlink ▸ hslot), hlink]
  · rw [htake, State.takeFrame_of_replay (hlink ▸ hslot) (hlink ▸ hsame), hlink]
  · rw [htake, State.takeFrame_of_new (hlink ▸ hnew), State.acceptRequest_eq, hpurge, hlink, h₃]
    rfl

/-! ### The common checks (R174) -/

theorem Cmd.needsSession_eq_false_iff (c : Cmd) : c.needsSession = false ↔ c ∈ [.nop, .openSession, .status] := by
  cases c <;> decide

/-- The length a command takes is the one the table of section 10.5 gives. -/
theorem paramLen_of_mem_commandTable : ∀ x ∈ commandTable, x.2.1.paramLen = x.2.2 := by decide

theorem ofNumber_of_mem_commandTable : ∀ x ∈ commandTable, Cmd.ofNumber x.1 = some x.2.1 := by decide

/-- Section 10.5 lists exactly the numbers that name a command. -/
theorem ofNumber_eq_some_iff_commandTable (n : Nat) (c : Cmd) :
    Cmd.ofNumber n = some c ↔ ∃ len, (n, c, len) ∈ commandTable := by
  refine ⟨fun h => ⟨c.paramLen, ?_⟩, fun ⟨_, hmem⟩ => ofNumber_of_mem_commandTable _ hmem⟩
  unfold Cmd.ofNumber at h
  split at h
  case h_26 => cases h
  all_goals
    cases h
    decide

section

variable {c : Cmd} {p : Port} {req : Request} {s : State}

theorem State.commonCheck_noSession (hc : c.needsSession = true) (hs : (s.session p).state = .closed) :
    s.commonCheck c p req = some .noSession :=
  if_pos ⟨hc, hs⟩

theorem State.commonCheck_badArg (hs : c.needsSession = false ∨ (s.session p).state = .opened)
    (hlen : req.params.length ≠ c.paramLen) : s.commonCheck c p req = some .badArg := by
  have hpass : ¬(c.needsSession = true ∧ (s.session p).state = .closed) := by
    rintro ⟨hneeds, hclosed⟩
    simp [hneeds, hclosed] at hs
  exact (if_neg hpass).trans (if_pos hlen)

/-- A failed common check is the answer of every command, before its own checks. SNAP and CLOSE, which are more than one
step, make the checks in a meaning of their own. -/
theorem refusedWith_of_commonCheck {r : Result} (makers : Makers) (h : s.runnable c p = some req)
    (hc : s.commonCheck c p req = some r) : s.RefusedWith (c.instr p makers) p req r := by
  cases c
  case snap | closeSession =>
    refine congrArg Host.Outcome.next ?_
    simp only [h, hc]
  all_goals exact congrArg _ (State.runCommand_of_check h hc)

end

/-- Settles O48: `refusedWith_of_commonCheck` for each of the two checks, with the lengths of the command table. -/
theorem commonChecksAndNop : Obligations.CommonChecksAndNop := by
  refine ⟨fun c p makers s req hdue => ⟨fun hc hclosed => ?_, fun hpass x hx hxc hlen => ?_⟩,
    fun p s req hrun => congrArg _ (State.runCommand_ok hrun rfl), ofNumber_eq_some_iff_commandTable⟩
  · have hneeds : c.needsSession = true := by
      rwa [← Cmd.needsSession_eq_false_iff, Bool.not_eq_false] at hc
    exact refusedWith_of_commonCheck makers hdue (State.commonCheck_noSession hneeds hclosed)
  · rw [← Cmd.needsSession_eq_false_iff] at hpass
    rw [← paramLen_of_mem_commandTable x hx, hxc] at hlen
    exact refusedWith_of_commonCheck makers hdue (State.commonCheck_badArg hpass hlen)

end Sys2Proof.Machine

/-!
PROOF. The family of the frame and record formats: bytes on the wire, the CRC-8, byte order and codes (O49).
-/

namespace Sys2Proof.Machine

/-! ### Bytes on the wire (R165) -/

theorem bitNat_eq_toNat (b : Bool) : bitNat b = b.toNat := by cases b <;> rfl

theorem bitNat_getLsbD (b : Byte) (i : Nat) : bitNat (b.getLsbD i) = b.toNat / 2 ^ i % 2 := by
  rw [← BitVec.testBit_toNat, bitNat_eq_toNat, Nat.toNat_testBit]

/-- A byte is the binary number of its bits: halving it again and again takes them off one by one. -/
theorem byteOfBits_getLsbD (b : Byte) : byteOfBits (b.getLsbD 7) (b.getLsbD 6) (b.getLsbD 5) (b.getLsbD 4)
    (b.getLsbD 3) (b.getLsbD 2) (b.getLsbD 1) (b.getLsbD 0) = b := by
  simp only [byteOfBits, bitNat_getLsbD, Nat.pow_succ, ← Nat.div_div_eq_div_mul, Nat.pow_zero, Nat.div_one]
  refine BitVec.eq_of_toNat_eq ((BitVec.toNat_ofNat _ _).trans ?_)
  have hlt := b.isLt
  omega

/-- Fewer than eight bits make no byte. -/
theorem wholeBytes_of_length_lt {left : List Bool} (h : left.length < 8) : wholeBytes left = [] := by
  unfold wholeBytes
  split
  next =>
    simp only [List.length_cons] at h
    omega
  next => rfl

/-- The bits of a byte give that byte back, and the reading goes on behind them. -/
theorem wholeBytes_bitsOfByte_append (b : Byte) (bits : List Bool) :
    wholeBytes (bitsOfByte b ++ bits) = b :: wholeBytes bits :=
  congrArg (· :: wholeBytes bits) (byteOfBits_getLsbD b)

theorem wholeBytes_bitsOfBytes_append (bytes : List Byte) {left : List Bool} (h : left.length < 8) :
    wholeBytes (bitsOfBytes bytes ++ left) = bytes := by
  induction bytes with
  | nil => exact wholeBytes_of_length_lt h
  | cons b bytes ih =>
    calc wholeBytes (bitsOfBytes (b :: bytes) ++ left)
      _ = wholeBytes (bitsOfByte b ++ (bitsOfBytes bytes ++ left)) := by simp [bitsOfBytes]
      _ = b :: wholeBytes (bitsOfBytes bytes ++ left) := wholeBytes_bitsOfByte_append b _
      _ = b :: bytes := by rw [ih]

/-! ### The CRC (R184) -/

/-- The bit shifted out of the remainder is bit 7. -/
theorem crcShift_eq (r : Byte) : crcShift r = if r.getLsbD 7 = true then (r <<< 1) ^^^ 0x07 else r <<< 1 := by
  rw [crcShift, BitVec.msb_eq_getLsbD_last]

theorem crcByte_eq_iterate (r b : Byte) : crcByte r b = crcShift^[8] (r ^^^ b) := rfl

theorem crc8_append_byte (bytes : List Byte) (b : Byte) : crc8 (bytes ++ [b]) = crcShift^[8] (crc8 bytes ^^^ b) := by
  rw [← crcByte_eq_iterate, crc8, List.foldl_append]
  rfl

/-- Behind the LENGTH check, a frame is refused for its CRC exactly when the CRC check fails (R169). -/
theorem parseFrame_eq_crc_iff {bytes : List Byte} (h : ¬LengthFails bytes) :
    parseFrame bytes = .refused .crc (bytes.getD 2 0) ↔ ¬CrcAgrees bytes := by
  refine ⟨fun hparse hcrc => ?_, parseFrame_of_crc h⟩
  rw [parseFrame_of_valid h hcrc] at hparse
  cases hparse

/-! ### Fields least significant byte first (R181) -/

theorem extractLsb'_byte {w : Nat} (x : BitVec w) (i : Nat) :
    x.extractLsb' i 8 = BitVec.ofNat 8 (x.toNat / 2 ^ i) := by
  rw [← Nat.shiftRight_eq_div_pow]
  rfl

theorem toNat_append_byte {w : Nat} (x : BitVec w) (b : Byte) : (x ++ b).toNat = 256 * x.toNat + b.toNat := by
  rw [BitVec.toNat_append, ← Nat.shiftLeft_add_eq_or_of_lt b.isLt, Nat.shiftLeft_eq, Nat.mul_comm]

theorem paramByte_append (before rest : List Byte) (k : Nat) :
    paramByte (before ++ rest) (before.length + k) = paramByte rest k := by
  rw [paramByte, List.getD_append_right _ _ _ _ (Nat.le_add_right _ _), Nat.add_sub_cancel_left, paramByte]

/-- A field stands where it stands, whatever is before it. -/
theorem paramNat_append (before rest : List Byte) : paramNat (before ++ rest) before.length = paramNat rest 0 :=
  congrArg BitVec.toNat (paramByte_append before rest 0)

theorem paramHalf_append (before rest : List Byte) : paramHalf (before ++ rest) before.length = paramHalf rest 0 := by
  have h := paramByte_append before rest
  rw [paramHalf, h 1, ← Nat.add_zero before.length, h 0, paramHalf]

theorem paramWord_append (before rest : List Byte) : paramWord (before ++ rest) before.length = paramWord rest 0 := by
  have h := paramByte_append before rest
  rw [paramWord, h 3, h 2, h 1, ← Nat.add_zero before.length, h 0, paramWord]

theorem toNat_paramHalf_zero (b₀ b₁ : Byte) (rest : List Byte) :
    (paramHalf (b₀ :: b₁ :: rest) 0).toNat = b₀.toNat + 256 * b₁.toNat :=
  (toNat_append_byte b₁ b₀).trans (Nat.add_comm _ _)

theorem toNat_paramWord_zero (b₀ b₁ b₂ b₃ : Byte) (rest : List Byte) :
    (paramWord (b₀ :: b₁ :: b₂ :: b₃ :: rest) 0).toNat =
      b₀.toNat + 256 * b₁.toNat + 65536 * b₂.toNat + 16777216 * b₃.toNat := by
  have h : (b₃ ++ b₂ ++ b₁ ++ b₀).toNat = 256 * (256 * (256 * b₃.toNat + b₂.toNat) + b₁.toNat) + b₀.toNat := by
    simp only [toNat_append_byte]
  calc (paramWord (b₀ :: b₁ :: b₂ :: b₃ :: rest) 0).toNat
    _ = 256 * (256 * (256 * b₃.toNat + b₂.toNat) + b₁.toNat) + b₀.toNat := h
    _ = b₀.toNat + 256 * b₁.toNat + 65536 * b₂.toNat + 16777216 * b₃.toNat := by omega

/-- Settles O49: the rules of R165, R184 and R181 by the lemmas above; the worked values and the codes are evaluated. -/
theorem wireBytesAndCrc : Obligations.WireBytesAndCrc := by
  refine ⟨fun bytes left h => wholeBytes_bitsOfBytes_append bytes h, rfl, fun bytes b => ?_, ?nop, ?noteRead, ?digits,
    fun _ _ => rfl, fun bytes len hlen htwo hmost hwhole => ?_, fun w => ?_, fun w => ?_,
    fun before rest b₀ b₁ b₂ b₃ => ⟨?_, ?_, ?_⟩, fun _ => rfl, by decide⟩
  · rw [crc8_append_byte, funext crcShift_eq]
  case nop | noteRead | digits => simp [crc8, crcByte, crcShift_eq]
  · subst hlen
    refine parseFrame_eq_crc_iff ?_
    unfold LengthFails
    omega
  · simp [le16, extractLsb'_byte]
  · simp [le32, extractLsb'_byte]
  · exact paramNat_append before _
  · rw [paramHalf_append, toNat_paramHalf_zero]
  · rw [paramWord_append, toNat_paramWord_zero]

end Sys2Proof.Machine

/-!
PROOF. What the first step of each command can do: one inversion lemma for each body.
-/

namespace Sys2Proof.Machine

/-! ### The checks that come first -/

section

variable {p : Port} {n : Nat} {s s' : State} {data : List Byte}

/-- A command past the checks of R17 names an axis there is, and owns its right if it changes the axis. -/
theorem State.withAxis_ok {changes : Bool} {k : Axis → Reply} (h : s.withAxis p n changes k = .ok s' data) :
    ∃ a : Axis, n = a.val ∧ (changes = true → s.axisRight a = some p) ∧ k a = .ok s' data := by
  unfold State.withAxis at h
  split at h
  next => cases h
  next a ha =>
    split at h
    next => cases h
    next hright => exact ⟨a, below_eq_some.mp ha, fun hc => Decidable.not_not.mp fun hne => hright ⟨hc, hne⟩, h⟩

/-- A command past the checks of R53 names a slot of the port. -/
theorem State.withSlot_ok {k : SlotNo → Trigger → Reply} (h : s.withSlot p n k = .ok s' data) :
    ∃ m t, s.slot m = some t ∧ t.owner = p ∧ k m t = .ok s' data := by
  unfold State.withSlot at h
  split at h
  next => cases h
  next m _ =>
    split at h
    next => cases h
    next t ht =>
      split at h
      next ho => exact ⟨m, t, ht, ho, h⟩
      next => cases h

/-- A command past the check of R95 names a line there is. -/
theorem withLine_ok {k : LineNo → Reply} (h : withLine n k = .ok s' data) : ∃ l : LineNo, k l = .ok s' data := by
  unfold withLine at h
  split at h
  next => cases h
  next l _ => exact ⟨l, h⟩

end

/-! ### What an accepted command does -/

section

variable {p : Port} {ps : List Byte} {s s' : State} {data : List Byte}

theorem axisSetBody_effect (h : axisSetBody p ps s = .ok s' data) :
    ∃ a c, c.inRange = true ∧ (c.recountsFrom (s.axis a).config = true → s.armList a = []) ∧
      s' = s.configureAxis a c := by
  obtain ⟨a, -, -, h⟩ := State.withAxis_ok h
  split at h
  next => cases h
  next c _ =>
    split at h
    next => cases h
    next hrange =>
      split at h
      next => cases h
      next hfree =>
        cases h
        exact ⟨a, c, by simpa using hrange, fun hr => Decidable.not_not.mp fun hne => hfree ⟨hr, hne⟩, rfl⟩

theorem axisClearDoubtBody_effect (h : axisClearDoubtBody p ps s = .ok s' data) :
    ∃ a, s' = s.setAxis a { s.axis a with doubt := false } := by
  obtain ⟨a, -, -, h⟩ := State.withAxis_ok h
  cases h
  exact ⟨a, rfl⟩

theorem axisReadBody_effect (h : axisReadBody p ps s = .ok s' data) : s' = s := by
  obtain ⟨a, -, -, h⟩ := State.withAxis_ok h
  cases h
  rfl

theorem axisRefarmBody_effect (h : axisRefarmBody p ps s = .ok s' data) :
    ∃ a r, s' = s.setRefState a r := by
  obtain ⟨a, -, -, h⟩ := State.withAxis_ok h
  split at h
  next => cases h
  next r _ =>
    cases h
    exact ⟨a, r, rfl⟩

theorem axisPresetBody_effect {makers : Makers} (h : axisPresetBody p makers ps s = .ok s' data) :
    ∃ a v, inRange (s.axis a).config.modulus v = true ∧ s' = s.commandReference a .preset v makers := by
  obtain ⟨a, -, -, h⟩ := State.withAxis_ok h
  dsimp only at h
  split at h
  next => cases h
  next hrange =>
    cases h
    exact ⟨a, _, by simpa using hrange, rfl⟩

/-- An accepted TRIG_DEFINE fills a FREE slot from its description, within the quota (R57). -/
theorem trigDefineBody_effect (h : trigDefineBody p ps s = .ok s' data) :
    ∃ d t n, descriptionOf ps = some d ∧ d.toTrigger p s = some t ∧ s.lineClaimed t = true ∧
      s.heldBy p < (s.session p).quota ∧ s.slot n = none ∧
      s' = (s.setSlot n (some t)).setHeld p (s.heldBy p + 1) := by
  unfold trigDefineBody at h
  split at h
  next => cases h
  next d hd =>
    split at h
    next => cases h
    next t ht =>
      split at h
      next => cases h
      next hline =>
        split at h
        next => cases h
        next hquota =>
          split at h
          next => cases h
          next n hn =>
            cases h
            exact ⟨d, t, n, hd, ht, by simpa using hline, Nat.lt_of_not_le hquota,
              by simpa using List.find?_some hn, rfl⟩

theorem trigArmBody_effect (h : trigArmBody p ps s = .ok s' data) :
    ∃ n t, s.slot n = some t ∧ t.owner = p ∧ t.state = .staged ∧ t.fits (s.axis t.axis).config.modulus = true ∧
      s' = s.arm n t := by
  obtain ⟨n, t, ht, ho, h⟩ := State.withSlot_ok h
  split at h
  next => cases h
  next hstate =>
    split at h
    next => cases h
    next =>
      split at h
      next => cases h
      next hfits =>
        cases h
        exact ⟨n, t, ht, ho, Decidable.not_not.mp hstate, by simpa using hfits, rfl⟩

theorem trigDisarmBody_effect (h : trigDisarmBody p ps s = .ok s' data) :
    ∃ n t, s.slot n = some t ∧ t.owner = p ∧ t.state = .armed ∧ s' = s.unarm n t .staged := by
  obtain ⟨n, t, ht, ho, h⟩ := State.withSlot_ok h
  split at h
  next => cases h
  next hstate =>
    cases h
    exact ⟨n, t, ht, ho, Decidable.not_not.mp hstate, rfl⟩

theorem trigDeleteBody_effect (h : trigDeleteBody p ps s = .ok s' data) :
    ∃ n t, s.slot n = some t ∧ t.owner = p ∧ t.state ≠ .retiring ∧
      s' = (s.unplace t.axis n).settleGiveUp n t := by
  obtain ⟨n, t, ht, ho, h⟩ := State.withSlot_ok h
  split at h
  next => cases h
  next hstate =>
    cases h
    exact ⟨n, t, ht, ho, hstate, rfl⟩

theorem trigReadBody_effect (h : trigReadBody p ps s = .ok s' data) : s' = s := by
  obtain ⟨n, t, -, -, h⟩ := State.withSlot_ok h
  cases h
  rfl

theorem trigListBody_effect (h : trigListBody ps s = .ok s' data) : s' = s := by
  unfold trigListBody at h
  split at h
  next => cases h
  next =>
    split at h
    next => cases h
    next =>
      cases h
      rfl

theorem lineClaimBody_effect (h : lineClaimBody p ps s = .ok s' data) :
    ∃ l polarity release, (s.line l).owner = none ∧
      s' = s.setLine l ⟨some p, polarity, release, .inactive, .stopped⟩ := by
  obtain ⟨l, h⟩ := withLine_ok h
  split at h
  next polarity release _ _ =>
    split at h
    next => split at h <;> cases h
    next howner =>
      cases h
      exact ⟨l, polarity, release, howner, rfl⟩
  next => cases h

theorem lineReleaseBody_effect (h : lineReleaseBody p ps s = .ok s' data) :
    ∃ l, (s.line l).owner = some p ∧ (∀ n, ¬s.slotNames p l n = true) ∧ s' = s.setLine l (s.line l).giveUp := by
  obtain ⟨l, h⟩ := withLine_ok h
  split at h
  next => cases h
  next howner =>
    split at h
    next => cases h
    next hfree =>
      cases h
      refine ⟨l, Decidable.not_not.mp howner, fun n hn => hfree ?_, rfl⟩
      exact List.any_eq_true.mpr ⟨n, List.mem_finRange n, hn⟩

theorem lineDriveBody_effect (h : lineDriveBody p ps s = .ok s' data) :
    ∃ l act, (s.line l).owner = some p ∧ s' = s.actLine l act := by
  obtain ⟨l, h⟩ := withLine_ok h
  split at h
  next => cases h
  next howner =>
    split at h
    next => cases h
    next act _ =>
      cases h
      exact ⟨l, act, Decidable.not_not.mp howner, rfl⟩

theorem lineReadBody_effect (h : lineReadBody ps s = .ok s' data) : s' = s := by
  obtain ⟨l, h⟩ := withLine_ok h
  cases h
  rfl

theorem noteReadBody_effect (h : noteReadBody p ps s = .ok s' data) : s' = s := by
  unfold noteReadBody at h
  dsimp only at h
  split at h
  next => cases h
  next =>
    cases h
    rfl

theorem noteAckBody_effect (h : noteAckBody p ps s = .ok s' data) :
    ∃ k, s' = s.acknowledged p ((s.note p).removed k) := by
  unfold noteAckBody at h
  dsimp only at h
  split at h
  next => cases h
  next k _ =>
    cases h
    exact ⟨k + 1, rfl⟩

theorem subscribeBody_effect (h : subscribeBody p ps s = .ok s' data) :
    ∃ (a : Axis) (mask : BitVec 4), s' = s.setView p { s.view p with masks := (s.view p).masks.set a mask } := by
  unfold subscribeBody at h
  split at h
  next => cases h
  next a _ =>
    split at h
    next => cases h
    next =>
      cases h
      exact ⟨a, _, rfl⟩

theorem openBody_effect (h : openBody p ps s = .ok s' data) :
    ∃ k quota, (s.session p).state = .closed ∧ quota ≤ s.unreserved ∧ s' = s.openSession p k quota := by
  unfold openBody at h
  dsimp only at h
  split at h
  next => cases h
  next hstate =>
    split at h
    next => cases h
    next =>
      split at h
      next => cases h
      next hroom =>
        cases h
        refine ⟨_, _, ?_, Nat.le_of_not_lt hroom, rfl⟩
        cases hs : (s.session p).state with
        | closed => rfl
        | opened => exact absurd hs hstate

theorem statusBody_effect (h : statusBody p ps s = .ok s' data) : s' = s := by
  cases h
  rfl

theorem axisClaimBody_effect (h : axisClaimBody p ps s = .ok s' data) :
    ∃ a, s.axisRight a = none ∧ s' = s.setAxisRight a (some p) := by
  unfold axisClaimBody at h
  split at h
  next => cases h
  next a _ =>
    split at h
    next => split at h <;> cases h
    next hfree =>
      cases h
      exact ⟨a, hfree, rfl⟩

theorem axisReleaseBody_effect (h : axisReleaseBody p ps s = .ok s' data) :
    ∃ a, s.axisRight a = some p ∧ s' = s.setAxisRight a none := by
  unfold axisReleaseBody at h
  split at h
  next => cases h
  next a _ =>
    split at h
    next => cases h
    next howner =>
      cases h
      exact ⟨a, Decidable.not_not.mp howner, rfl⟩

end

end Sys2Proof.Machine

/-!
PROOF. Every command but DEVICE_RESET as a path of lawful changes: changes of the blocks, and changes of the port link
units with the arbiter. An invariant is kept by every step once each kind of change keeps it.
-/

namespace Sys2Proof.Machine

/-! ### The changes a command is made of -/

/-- Port `p`'s command takes its step with its session OPEN (R173, R174). -/
structure State.Working (s : State) (p : Port) : Prop where
  opened : (s.session p).state = .opened
  started : ∃ req, (s.link p).flight = some ⟨req, .started⟩

/-- A line with nothing going on: INACTIVE and no pulse (R92). -/
def LineRec.Idle (r : LineRec) : Prop := r.state = .inactive ∧ r.timer = .stopped

/-- The delta of a context lies within its limits (R131). -/
def Context.InLimits (c : Context) : Prop := -2147483647 ≤ c.delta ∧ c.delta ≤ 2147483647

/-- One change of the blocks, with what the command that makes it has checked. Links and arbiter stay as they are. -/
inductive BlockChange : State → State → Prop
  /-- Time base and pins. -/
  | time (s : State) (tick : Word) (periods : Nat) (inReset : Bool) (pins : Vector AxisPins 4) :
    BlockChange s { s with tick := tick, periods := periods, inReset := inReset, pins := pins }
  /-- Axis units, but for a reference. -/
  | axes (s : State) (x : Vector AxisUnit 4) (hok : ∀ a : Axis, (s.axis a).Ok → x[a].Ok)
    (hepoch : ∀ a : Axis, x[a].epoch = (s.axis a).epoch)
    (hmodulus : ∀ a : Axis, x[a].config.modulus = (s.axis a).config.modulus) : BlockChange s { s with axes := x }
  /-- A reference in the axis unit, with its record (R30, R31); a new modulus comes with one (R19). -/
  | reference (s : State) (a : Axis) (u : AxisUnit) (r : Reference) (hok : (s.axis a).Ok → u.Ok)
    (hepoch : u.epoch = (s.axis a).epoch + 1)
    (hmodulus : u.config.modulus = (s.axis a).config.modulus ∨ s.armList a = []) (haxis : r.axis = a)
    (hr : r.epoch = (s.axis a).epoch + 1) : BlockChange s ((s.setAxis a u).handToTable a (.reference r))
  /-- The record of a count arrival handed on (R11). -/
  | arrival (s : State) (a : Axis) (r : Arrival) (haxis : r.axis = a) (hr : r.epoch = (s.axis a).epoch) :
    BlockChange s (s.handToTable a (.arrival r))
  /-- Contexts. -/
  | contexts (s : State) (x : PerPort View) (hmasks : ∀ p, (x.get p).masks = (s.view p).masks)
    (hlimits : ∀ p, ∀ a : Axis, (s.view p).contexts[a].InLimits → (x.get p).contexts[a].InLimits) :
    BlockChange s { s with views := x }
  /-- A mask, by a SUBSCRIBE (R140). -/
  | subscribe (s : State) (p : Port) (a : Axis) (mask : BitVec 4) (hp : s.Working p) :
    BlockChange s (s.setView p { s.view p with masks := (s.view p).masks.set a mask })
  | hand (s : State) (p : Port) (r : Report) : BlockChange s (s.hand p r)
  /-- The unit's part of an acknowledgement (R118, R119). -/
  | acknowledge (s : State) (p : Port) (k : Nat) :
    BlockChange s (s.setNote p ((s.note p).afterMove ((s.note p).removed k)))
  | arrivalTaken (s : State) (a : Axis) (r : Arrival) (rest : List AxisRecord) (hin : s.inbox a = .arrival r :: rest) :
    BlockChange s (s.setInbox a rest)
  | referenceTaken (s : State) (a : Axis) (r : Reference) (rest : List AxisRecord)
    (hin : s.inbox a = .reference r :: rest) : BlockChange s ((s.setInbox a rest).setEpochOf r.axis r.epoch)
  /-- A FREE slot filled within the quota (R57). -/
  | define (s : State) (p : Port) (n : SlotNo) (t : Trigger) (hp : s.Working p) (hfree : s.slot n = none)
    (hstate : t.state = .staged) (howner : t.owner = p) (htarget : t.target = t.origin) (hagrees : t.Agrees)
    (hline : s.lineClaimed t = true) (hquota : s.heldBy p < (s.session p).quota) :
    BlockChange s ((s.setSlot n (some t)).setHeld p (s.heldBy p + 1))
  | arm (s : State) (n : SlotNo) (t : Trigger) (hslot : s.slot n = some t) (hstate : t.state = .staged)
    (hfits : t.fits (s.axis t.axis).config.modulus = true) : BlockChange s (s.arm n t)
  | unarm (s : State) (n : SlotNo) (t : Trigger) (st : SlotState) (hslot : s.slot n = some t)
    (hstate : t.state ≠ .retiring) (hst : st ≠ .armed) : BlockChange s (s.unarm n t st)
  | fireOwn (s : State) (n : SlotNo) (t : Trigger) (hslot : s.slot n = some t) (harmed : t.state = .armed) :
    BlockChange s (s.fireOwn n t)
  | free (s : State) (n : SlotNo) (t : Trigger) (hslot : s.slot n = some t) (hstate : t.state ≠ .armed) :
    BlockChange s (s.freeSlot t.owner n)
  /-- A slot given up while an owed entry names it (R43). -/
  | retire (s : State) (n : SlotNo) (t : Trigger) (hslot : s.slot n = some t) (hstate : t.state = .retiring) :
    BlockChange s (s.setSlot n (some { t with state := .retiring, target := t.origin }))
  | purgeTable (s : State) (p : Port) : BlockChange s (s.purgeTable p)
  /-- Lines that keep their owners. -/
  | lines (s : State) (x : Vector LineRec 8) (howner : ∀ l : LineNo, x[l].owner = (s.line l).owner)
    (hidle : ∀ l : LineNo, (s.line l).owner = none → (s.line l).Idle → x[l].Idle) : BlockChange s { s with lines := x }
  | fireLine (s : State) (n : SlotNo) (t : Trigger) (hslot : s.slot n = some t) (harmed : t.state = .armed) :
    BlockChange s (s.fireLine t)
  | claimLine (s : State) (p : Port) (l : LineNo) (polarity : Polarity) (release : Release) (hp : s.Working p)
    (hfree : (s.line l).owner = none) : BlockChange s (s.setLine l ⟨some p, polarity, release, .inactive, .stopped⟩)
  | releaseLine (s : State) (p : Port) (l : LineNo) (howner : (s.line l).owner = some p)
    (hfree : ∀ n, ¬s.slotNames p l n = true) : BlockChange s (s.setLine l (s.line l).giveUp)
  | purgeLines (s : State) (p : Port) (g : Purge) (hg : (s.session p).purge = some g) (htable : g.table = true) :
    BlockChange s (s.purgeLines p)
  | right (s : State) (a : Axis) (o : Option Port) (ho : ∀ p, o = some p → s.Working p) :
    BlockChange s (s.setAxisRight a o)
  | purgeRights (s : State) (p : Port) : BlockChange s (s.purgeRights p)
  | purgeNotes (s : State) (p : Port) : BlockChange s (s.purgeNotes p)
  | purgeView (s : State) (p : Port) : BlockChange s (s.purgeView p)
  /-- A block's step of a purge marked, once the block has given back what the port held there (R157). -/
  | mark (s : State) (p : Port) (g g' : Purge) (hg : (s.session p).purge = some g)
    (hgiven : s.GivenBack p g → s.GivenBack p g')
    (hafter : (g.lines = true → g.table = true) → g'.lines = true → g'.table = true)
    (hnotes : g'.notes = true → g.notes = true ∨ (s.note p).intake = false) : BlockChange s (s.markPurge p g')
  /-- Keepalive timers. -/
  | timers (s : State) (x : PerPort Session)
    (hsame : ∀ p, x.get p = { s.session p with timer := (x.get p).timer })
    (hok : ∀ p, (s.session p).Ok → (x.get p).Ok) : BlockChange s { s with sessions := x }
  | beginPurge (s : State) (p : Port) (byExpiry : Bool)
    (hopened : (s.session p).state = .opened ∨ (s.session p).timer = .due)
    (hflight : ∀ f, (s.link p).flight = some f → f.stage = .held ∨ f.stage = .closing) :
    BlockChange s (s.setSession p ((s.session p).beginPurge byExpiry))
  | closeSession (s : State) (p : Port) (g : Purge) (hg : (s.session p).purge = some g) (hall : g.allDone = true) :
    BlockChange s (s.closeSession p g)
  | openSession (s : State) (p : Port) (k quota : Nat) (hclosed : (s.session p).state = .closed)
    (hroom : quota ≤ s.unreserved) : BlockChange s (s.openSession p k quota)

/-- One change of a port link unit, with the arbiter's part in it. -/
inductive LinkChange : State → State → Prop
  /-- The command in flight stays. -/
  | link (s : State) (p : Port) (l : Link) (hok : (s.link p).Ok → l.Ok) (hflight : l.flight = (s.link p).flight) :
    LinkChange s (s.setLink p l)
  | accept (s : State) (p : Port) (req : Request) (hslot : (s.link p).slot ≠ .pending) :
    LinkChange s (s.setLink p ((s.link p).accept req))
  | start (s : State) (p : Port) (req : Request) (c : Cmd) (hflight : (s.link p).flight = some ⟨req, .held⟩)
    (hcommand : req.command = some c) (hpurge : (s.session p).purge = none) : LinkChange s (s.startOnWay p req)
  | complete (s : State) (p : Port) (req : Request) (r : Result) (data : List Byte)
    (hflight : (s.link p).flight.isSome = true) (hgrant : s.AtArbiter p → s.grant = some p) :
    LinkChange s (s.complete p req r data)
  | snapping (s : State) (p : Port) (req : Request) (run : SnapRun) (stage : Stage)
    (hflight : (s.link p).flight = some ⟨req, stage⟩)
    (hstage : (stage = .started ∧ req.command = some .snap) ∨ ∃ before, stage = .snapping before) :
    LinkChange s (s.setLink p { s.link p with flight := some ⟨req, .snapping run⟩ })
  | closing (s : State) (p : Port) (req : Request) (hflight : (s.link p).flight = some ⟨req, .started⟩)
    (hgrant : s.grant = some p) : LinkChange s (s.setLink p { s.link p with flight := some ⟨req, .closing⟩ })
  | drop (s : State) (p : Port) (hflight : (s.link p).flight.isSome = true) (hrunning : s.running p = false) :
    LinkChange s ((s.setLink p (s.link p).drop).leaveArbiter p)

/-- A change of either kind. -/
inductive Change (s t : State) : Prop
  | block (h : BlockChange s t)
  | link (h : LinkChange s t)

/-- Block changes one after another. -/
abbrev BlockPath : State → State → Prop := Relation.ReflTransGen BlockChange

/-- Changes one after another. -/
abbrev Path : State → State → Prop := Relation.ReflTransGen Change

theorem BlockPath.path {s t : State} (h : BlockPath s t) : Path s t := Relation.ReflTransGen.mono (fun _ _ => Change.block) _ _ h

/-- What stays through a change of the blocks: links, arbiter, the queue and the cause of the last reset. -/
structure OutsideBlocks (s t : State) : Prop where
  pending : t.pending = s.pending
  resetCause : t.resetCause = s.resetCause
  links : t.links = s.links
  grant : t.grant = s.grant
  waiting : t.waiting = s.waiting

theorem BlockChange.outside {s t : State} (h : BlockChange s t) : OutsideBlocks s t := by
  cases h <;> constructor <;>
    simp [State.purgeTable, State.purgeNotes, State.purgeView, State.purgeLines, State.purgeRights, State.markPurge,
      State.closeSession, State.openSession]

theorem BlockPath.outside {s t : State} (h : BlockPath s t) : OutsideBlocks s t := by
  induction h with
  | refl => exact ⟨rfl, rfl, rfl, rfl, rfl⟩
  | tail _ hlast ih =>
    have h := hlast.outside
    exact ⟨h.pending.trans ih.pending, h.resetCause.trans ih.resetCause, h.links.trans ih.links,
      h.grant.trans ih.grant, h.waiting.trans ih.waiting⟩

theorem LinkChange.outside {s t : State} (h : LinkChange s t) :
    t.pending = s.pending ∧ t.resetCause = s.resetCause := by
  cases h <;> simp

/-- A path leaves the queue and the recorded cause of the last reset. -/
theorem Path.outside {s t : State} (h : Path s t) : t.pending = s.pending ∧ t.resetCause = s.resetCause := by
  induction h with
  | refl => exact ⟨rfl, rfl⟩
  | tail _ hlast ih =>
    obtain ⟨hpending, hcause⟩ := ih
    cases hlast with
    | block h => exact ⟨h.outside.pending.trans hpending, h.outside.resetCause.trans hcause⟩
    | link h => exact ⟨h.outside.1.trans hpending, h.outside.2.trans hcause⟩

end Sys2Proof.Machine

/-!
PROOF. What the axis units' own changes do to their laws, and the operations of table, axes and notification units as
paths of block changes.
-/

namespace Sys2Proof.Machine

/-! ### Timers -/

@[simp] theorem Timer.step_eq_stopped_iff (t : Timer) : t.step = .stopped ↔ t = .stopped := by
  cases t with
  | running n => by_cases hn : n ≤ 1 <;> simp [Timer.step, hn]
  | _ => simp [Timer.step]

theorem Timer.load_ne_stopped {n : Nat} (h : n ≠ 0) : Timer.load n ≠ .stopped := by
  simp [Timer.load, h]

/-! ### Filters keep their laws (R3, R4) -/

namespace Filter

variable {F : Nat} {f : Filter}

theorem Ok.sample (h : f.Ok F) (hdue : f.outstanding F = false) (pin : Bool) : (f.sample pin).Ok F := by
  obtain ⟨hrun, hunsettled⟩ := h
  cases hl : f.level with
  | none =>
    exact ⟨by simp [Filter.sample, hl, hunsettled hl], fun _ => by simp [Filter.sample, hl, hunsettled hl]⟩
  | some l =>
    have hlt : f.run < F := by
      simpa [outstanding, changeDue, settleDue, hl] using hdue
    refine ⟨?_, fun hnone => ?_⟩
    · simp only [Filter.sample, hl]
      split <;> omega
    · simp [Filter.sample, hl] at hnone

theorem ok_settle : f.settle.Ok F := ⟨Nat.zero_le _, fun _ => rfl⟩

theorem ok_restart : f.restart.Ok F := ⟨Nat.zero_le _, fun _ => rfl⟩

theorem Ok.acceptIfDue (h : f.Ok F) : (f.acceptIfDue F).Ok F := by
  unfold Filter.acceptIfDue
  split
  · exact ⟨Nat.zero_le _, fun _ => rfl⟩
  · exact h

end Filter

/-! ### Axis units keep their laws (section 1.6, R9, R10, R18) -/

namespace AxisUnit

variable {u : AxisUnit}

theorem Ok.stepTimer (h : u.Ok) : Ok { u with stallTimer := u.stallTimer.step } :=
  { h with timer := by simpa using h.timer }

theorem Ok.setDoubt (h : u.Ok) (d : Bool) : Ok { u with doubt := d } := { h with }

theorem Ok.setRefState (h : u.Ok) (r : RefState) : Ok { u with refState := r } := { h with }

theorem Ok.sample (h : u.Ok) (hdue : u.outstanding = false) (pins : AxisPins) :
    Ok { u with inputs := u.inputs.sample pins } := by
  simp only [outstanding, Bool.or_eq_false_iff] at hdue
  obtain ⟨⟨⟨hpha, hphb⟩, hidx⟩, hhome⟩ := hdue
  exact { h with
    pha := h.pha.sample hpha _, phb := h.phb.sample hphb _, idx := h.idx.sample hidx _, home := h.home.sample hhome _ }

theorem Ok.settle (h : u.Ok) (i : Input) : Ok { u with inputs := u.inputs.set i (u.inputs.get i).settle } := by
  cases i with
  | pha => exact { h with pha := Filter.ok_settle }
  | phb => exact { h with phb := Filter.ok_settle }
  | idx => exact { h with idx := Filter.ok_settle }
  | home => exact { h with home := Filter.ok_settle }

theorem Ok.takePhaseLevels (h : u.Ok) : Ok { u with inputs := { u.inputs with
    pha := u.inputs.pha.acceptIfDue u.config.filterLen, phb := u.inputs.phb.acceptIfDue u.config.filterLen } } :=
  { h with pha := h.pha.acceptIfDue, phb := h.phb.acceptIfDue }

theorem Ok.takeReferenceLevels (h : u.Ok) : Ok { u with inputs := { u.inputs with
    idx := u.inputs.idx.acceptIfDue u.config.filterLen, home := u.inputs.home.acceptIfDue u.config.filterLen } } :=
  { h with idx := h.idx.acceptIfDue, home := h.home.acceptIfDue }

/-- A stall-timer expiry: the timer was running, so the monitor was on (R13). -/
theorem Ok.stall (h : u.Ok) (hdue : u.stallTimer = .due) : Ok { u with motion := .still, stallTimer := .stopped } := by
  have hmoving : u.motion = .moving := h.timer.mp (by simp [hdue])
  refine { h with off := ?_, timer := by simp }
  rw [← h.off, hmoving]
  simp

/-- The monitor at a count arrival: what is loaded is not 0, for the monitor is on (R13). -/
theorem Ok.monitorCount (h : u.Ok) : u.monitorCount.Ok := by
  rw [State.monitorCount_eq]
  by_cases hoff : u.motion = .off
  · simp only [hoff, if_true]
    exact { h with off := by simpa [hoff] using h.off, timer := by simpa [hoff] using h.timer }
  · have hload : Timer.load (u.config.stallLimit * 1000) ≠ .stopped :=
      Timer.load_ne_stopped (Nat.mul_ne_zero (mt h.off.mpr hoff) (by decide))
    simp only [hoff, if_false]
    exact { h with off := by simpa using mt h.off.mpr hoff, timer := by simpa using hload }

theorem inRange_iff {modulus : Nat} {v : Word} :
    inRange modulus v = true ↔ modulus = 0 ∨ (0 ≤ v.toInt ∧ v.toInt < modulus) := by simp [inRange]

/-- A count leaves the position in the range of the axis (R10). -/
theorem countMove_inRange {m : Nat} {pos : Word} (rev : Half) (dir : CountDir) (hmax : m ≤ Config.maxModulus)
    (h : inRange m pos = true) : inRange m (countMove m dir pos rev).1 = true := by
  rw [inRange_iff] at h ⊢
  by_cases hm : m = 0
  · exact .inl hm
  obtain ⟨hlow, hhigh⟩ := h.resolve_left hm
  refine .inr ?_
  cases dir with
  | up =>
    have hmove := countMove_up_modular (rev := rev) hm hmax hhigh
    split at hmove
    next =>
      rw [hmove.1]
      simp
      omega
    next => omega
  | down =>
    have hmove := countMove_down_modular (rev := rev) hm hmax hlow
    split at hmove <;> omega

/-- A count keeps the laws: the revolution count moves on a modular axis alone (R9, R10). -/
theorem Ok.count (h : u.Ok) (dir : CountDir) : Ok { u with
    position := (countMove u.config.modulus dir u.position u.revolution).1
    revolution := (countMove u.config.modulus dir u.position u.revolution).2 } := by
  refine { h with position := countMove_inRange _ _ h.modulus.2 h.position, linear := fun hlinear => ?_ }
  have hzero : u.config.modulus = 0 := hlinear
  have hrev := h.linear hlinear
  cases dir <;> simpa [countMove, hzero] using hrev

/-- A reference to a position in the range of the axis (R30). -/
theorem Ok.reference (h : u.Ok) {v : Word} (hv : inRange u.config.modulus v = true) :
    Ok { u with position := v, revolution := 0, epoch := u.epoch + 1, doubt := false } :=
  { h with position := hv, linear := fun _ => rfl }

theorem inRange_zero {modulus : Nat} : inRange modulus 0 = true := by
  rw [inRange_iff]
  simp
  omega

@[simp] theorem configure_config (u : AxisUnit) (c : AxisConfig) : (u.configure c).config = c := rfl

@[simp] theorem changeStall_epoch (u : AxisUnit) (n : Nat) : (u.changeStall n).epoch = u.epoch := by
  unfold changeStall
  split
  · rfl
  · split
    · rfl
    · cases u.motion <;> rfl

@[simp] theorem configure_epoch (u : AxisUnit) (c : AxisConfig) : (u.configure c).epoch = u.epoch :=
  changeStall_epoch u _

/-- The laws that do not speak of the position: what AXIS_SET keeps even where it changes the modulus (R18, R19). -/
structure ConfiguredOk (u : AxisUnit) : Prop where
  filterLen : 1 ≤ u.config.filterLen ∧ u.config.filterLen ≤ Config.maxFilterLen
  modulus : u.config.modulus ≠ 1 ∧ u.config.modulus ≤ Config.maxModulus
  preset : inRange u.config.modulus u.config.preset = true
  off : u.motion = .off ↔ u.config.stallLimit = 0
  timer : u.stallTimer ≠ .stopped ↔ u.motion = .moving
  pha : u.inputs.pha.Ok u.config.filterLen
  phb : u.inputs.phb.Ok u.config.filterLen
  idx : u.inputs.idx.Ok u.config.filterLen
  home : u.inputs.home.Ok u.config.filterLen

theorem ConfiguredOk.ok (h : u.ConfiguredOk) (hposition : inRange u.config.modulus u.position = true)
    (hlinear : u.config.modulus = 0 → u.revolution = 0) : u.Ok :=
  { h with position := hposition, linear := hlinear }

/-- The monitor stays lawful through a change of the stall limit (R14). -/
theorem Ok.changeStall (h : u.Ok) (n : Nat) :
    ((u.changeStall n).motion = .off ↔ n = 0) ∧
      ((u.changeStall n).stallTimer ≠ .stopped ↔ (u.changeStall n).motion = .moving) := by
  rw [changeStall_eq h]
  dsimp only
  by_cases hsame : n = u.config.stallLimit
  · simp only [hsame, if_true]
    exact ⟨h.off, h.timer⟩
  by_cases hzero : n = 0
  · subst hzero
    simp [hsame]
  cases hm : u.motion <;> simp [hsame, hzero]

theorem Ok.configure (h : u.Ok) {c : AxisConfig} (hc : c.inRange = true) : (u.configure c).ConfiguredOk := by
  simp only [AxisConfig.inRange, decide_eq_true_eq] at hc
  obtain ⟨hlow, hhigh, hone, hmax, hpreset⟩ := hc
  obtain ⟨hoff, htimer⟩ := h.changeStall c.stallLimit
  have hinputs : (u.configure c).inputs.pha.Ok c.filterLen ∧ (u.configure c).inputs.phb.Ok c.filterLen ∧
      (u.configure c).inputs.idx.Ok c.filterLen ∧ (u.configure c).inputs.home.Ok c.filterLen := by
    unfold AxisUnit.configure
    dsimp only
    split
    next hF => exact hF ▸ ⟨h.pha, h.phb, h.idx, h.home⟩
    next => exact ⟨Filter.ok_restart, Filter.ok_restart, Filter.ok_restart, Filter.ok_restart⟩
  obtain ⟨hpha, hphb, hidx, hhome⟩ := hinputs
  exact ⟨⟨hlow, hhigh⟩, ⟨hone, hmax⟩, hpreset, hoff, htimer, hpha, hphb, hidx, hhome⟩

@[simp] theorem configure_position (u : AxisUnit) (c : AxisConfig) : (u.configure c).position = u.position := by
  unfold configure changeStall
  dsimp only
  split
  · rfl
  · split
    · rfl
    · cases u.motion <;> rfl

@[simp] theorem configure_revolution (u : AxisUnit) (c : AxisConfig) : (u.configure c).revolution = u.revolution := by
  unfold configure changeStall
  dsimp only
  split
  · rfl
  · split
    · rfl
    · cases u.motion <;> rfl

end AxisUnit

end Sys2Proof.Machine

/-!
PROOF. The operations of the table, the axes and the notification units as paths of block changes.
-/

namespace Sys2Proof.Machine

/-! ### The table does not look at the records on their way -/

namespace State

variable (s : State) (a : Axis) (l : List AxisRecord)

theorem setInbox_setInbox (l' : List AxisRecord) : (s.setInbox a l).setInbox a l' = s.setInbox a l' := by
  simp [setInbox]

@[simp] theorem setInbox_self : s.setInbox a (s.inbox a) = s := by simp [setInbox, inbox]

theorem setInbox_fireLine (t : Trigger) : (s.setInbox a l).fireLine t = (s.fireLine t).setInbox a l := by
  unfold fireLine
  cases t.job <;> rfl

theorem setInbox_fireNote (n : SlotNo) (t : Trigger) (r : Arrival) :
    (s.setInbox a l).fireNote n t r = (s.fireNote n t r).setInbox a l := by
  unfold fireNote
  cases t.notify <;> rfl

theorem setInbox_fireOwn (n : SlotNo) (t : Trigger) :
    (s.setInbox a l).fireOwn n t = (s.fireOwn n t).setInbox a l := by
  unfold fireOwn
  cases t.countFire <;> rfl

theorem setInbox_chainable (p : Port) (m : SlotNo) : (s.setInbox a l).chainable p m = s.chainable p m := rfl

theorem setInbox_fireChain (n : SlotNo) (t : Trigger) (r : Arrival) :
    (s.setInbox a l).fireChain n t r = (s.fireChain n t r).setInbox a l := by
  unfold fireChain
  cases t.successor with
  | none => rfl
  | some m =>
    simp only [setInbox_chainable]
    cases s.chainable t.owner m <;> rfl

theorem setInbox_settleGiveUp (n : SlotNo) (t : Trigger) :
    (s.setInbox a l).settleGiveUp n t = (s.settleGiveUp n t).setInbox a l := by
  unfold settleGiveUp
  rw [setInbox_note]
  cases (s.note t.owner).owes n <;> rfl

theorem setInbox_fireClose (n : SlotNo) : (s.setInbox a l).fireClose n = (s.fireClose n).setInbox a l := by
  unfold fireClose
  rw [setInbox_slot]
  cases s.slot n with
  | none => rfl
  | some t =>
    dsimp only
    split
    · exact setInbox_settleGiveUp s a l n t
    · rfl

theorem setInbox_fire (r : Arrival) (n : SlotNo) : (s.setInbox a l).fire r n = (s.fire r n).setInbox a l := by
  unfold fire
  rw [setInbox_slot]
  cases s.slot n with
  | none => rfl
  | some t =>
    simp only [setInbox_fireLine, setInbox_fireNote, setInbox_fireOwn, setInbox_fireChain, setInbox_fireClose]
    split <;> rfl

theorem setInbox_dropOne (r : Reference) (n : SlotNo) :
    (s.setInbox a l).dropOne r n = (s.dropOne r n).setInbox a l := by
  unfold dropOne
  rw [setInbox_slot]
  cases s.slot n with
  | none => rfl
  | some t =>
    dsimp only
    split <;> rfl

/-- A fold of steps that do not look at the records on their way does not either. -/
theorem setInbox_foldl {β : Type} {g : State → β → State}
    (hg : ∀ (u : State) (x : β), g (u.setInbox a l) x = (g u x).setInbox a l) (xs : List β) :
    xs.foldl g (s.setInbox a l) = (xs.foldl g s).setInbox a l := by
  induction xs generalizing s with
  | nil => rfl
  | cons x xs ih => rw [List.foldl_cons, List.foldl_cons, hg, ih]

theorem setInbox_takeRecord (r : AxisRecord) :
    (s.setInbox a l).takeRecord r = (s.takeRecord r).setInbox a l := by
  cases r with
  | arrival r =>
    have hset : (s.setInbox a l).matchedSet r = s.matchedSet r := rfl
    rw [takeRecord, takeRecord, takeArrival, takeArrival, hset]
    exact setInbox_foldl s a l (fun u n => u.setInbox_fire a l r n) _
  | reference r => exact setInbox_foldl (s.setEpochOf r.axis r.epoch) a l (fun u n => u.setInbox_dropOne a l r n) _

end State

/-! ### Paths -/

theorem BlockChange.path {s t : State} (h : BlockChange s t) : BlockPath s t := .single h

theorem BlockPath.foldl {β : Type} {g : State → β → State} (hg : ∀ s x, BlockPath s (g s x)) (xs : List β)
    (s : State) : BlockPath s (xs.foldl g s) := by
  induction xs generalizing s with
  | nil => exact .refl
  | cons x xs ih => exact (hg s x).trans (ih _)

namespace State

variable (s : State)

/-! ### Notes -/

theorem handIfHeard_path (r : Report) (p : Port) : BlockPath s (s.handIfHeard r p) := by
  unfold handIfHeard
  split
  · exact (BlockChange.hand s p r).path
  · exact .refl

theorem route_path (r : Report) : BlockPath s (s.route r) :=
  ((s.handIfHeard_path r .a).trans (handIfHeard_path _ r .b)).trans (handIfHeard_path _ r .c)

theorem handInOrder_path (makers : Makers) (first : Maker) (r : Report) (p : Port) :
    BlockPath s (s.handInOrder makers first r p) := by
  unfold handInOrder
  split
  · exact s.handIfHeard_path r p
  · exact .refl

theorem routeIn_path (makers : Makers) (first : Maker) (note : Option Report) :
    BlockPath s (s.routeIn makers first note) := by
  cases note with
  | none => exact .refl
  | some r =>
    exact ((s.handInOrder_path makers first r .a).trans (handInOrder_path _ makers first r .b)).trans
      (handInOrder_path _ makers first r .c)

theorem lastOwedMoved_path (n : SlotNo) : BlockPath s (s.lastOwedMoved n) := by
  unfold lastOwedMoved
  split
  next t ht =>
    split
    next hstate => exact (BlockChange.free s n t ht (by simp [hstate])).path
    next => exact .refl
  next => exact .refl

theorem acknowledged_path (p : Port) (k : Nat) : BlockPath s (s.acknowledged p ((s.note p).removed k)) :=
  (BlockChange.acknowledge s p k).path.trans (BlockPath.foldl lastOwedMoved_path _ _)

/-! ### The table -/

variable {s}

/-- A slot that has finished with retain no is given up (R43, R74). -/
theorem settleGiveUp_path {n : SlotNo} {t : Trigger} (hslot : s.slot n = some t) (hstate : t.state = .retiring) :
    BlockPath s (s.settleGiveUp n t) := by
  unfold settleGiveUp
  split
  · exact (BlockChange.retire s n t hslot hstate).path
  · exact (BlockChange.free s n t hslot (by simp [hstate])).path

/-- A deletion takes the slot out of its list and gives it up (R43, R62). -/
theorem delete_path {n : SlotNo} {t : Trigger} (hslot : s.slot n = some t) (hstate : t.state ≠ .retiring) :
    BlockPath s ((s.unplace t.axis n).settleGiveUp n t) := by
  unfold settleGiveUp
  split
  · exact (BlockChange.unarm s n t .retiring hslot hstate (by simp)).path
  · have hfree := BlockChange.free (s.unarm n t .staged) n { t with state := .staged, target := t.origin }
      (by simp [unarm_slot]) (by simp)
    have hsame : (s.unarm n t .staged).freeSlot t.owner n = (s.unplace t.axis n).freeSlot t.owner n := by
      simp only [freeSlot, unarm, setSlot_setSlot, setSlot_heldBy]
    exact (BlockChange.unarm s n t .staged hslot hstate (by simp)).path.trans (hsame ▸ hfree.path)

theorem fireNote_path (n : SlotNo) (t : Trigger) (r : Arrival) : BlockPath s (s.fireNote n t r) := by
  unfold fireNote
  split
  · exact (BlockChange.hand s t.owner _).path
  · exact .refl

theorem fireChain_path (n : SlotNo) (t : Trigger) (r : Arrival) : BlockPath s (s.fireChain n t r) := by
  unfold fireChain
  split
  next => exact .refl
  next m _ =>
    split
    next u hu =>
      obtain ⟨hslot, hstate, -, hfits⟩ := chainable_eq_some_iff.mp hu
      exact (BlockChange.arm s m u hslot hstate hfits).path
    next => exact (BlockChange.hand s t.owner _).path

theorem fireClose_path (n : SlotNo) : BlockPath s (s.fireClose n) := by
  unfold fireClose
  split
  next t ht =>
    split
    next hstate => exact settleGiveUp_path ht hstate
    next => exact .refl
  next => exact .refl

variable (s)

theorem fire_path (r : Arrival) (n : SlotNo) : BlockPath s (s.fire r n) := by
  cases hslot : s.slot n with
  | none => rw [fire_of_not_armed r (by simp [hslot])]
  | some t =>
    by_cases harmed : t.state = .armed
    · rw [fire_eq r hslot harmed]
      have hnoted : ((s.fireLine t).fireNote n t r).slot n = some t := by simpa using hslot
      exact (BlockChange.fireLine s n t hslot harmed).path.trans ((fireNote_path n t r).trans
        ((BlockChange.fireOwn _ n t hnoted harmed).path.trans ((fireChain_path n t r).trans (fireClose_path n))))
    · rw [fire_of_not_armed r (by simp [hslot, harmed])]

theorem takeArrival_path (r : Arrival) : BlockPath s (s.takeArrival r) :=
  BlockPath.foldl (fun u n => u.fire_path r n) _ _

theorem dropOne_path (r : Reference) (n : SlotNo) : BlockPath s (s.dropOne r n) := by
  unfold dropOne
  split
  next t ht =>
    split
    next hdrop =>
      exact (BlockChange.unarm s n t .staged ht (by simp [hdrop.1]) (by simp)).path.trans
        (BlockChange.hand _ t.owner _).path
    next => exact .refl
  next => exact .refl

variable {s}

/-- The table takes the oldest record of an axis. -/
theorem takeOldest_path {a : Axis} {r : AxisRecord} {rest : List AxisRecord} (hin : s.inbox a = r :: rest) :
    BlockPath s ((s.setInbox a rest).takeRecord r) := by
  cases r with
  | arrival r => exact (BlockChange.arrivalTaken s a r rest hin).path.trans (takeArrival_path _ r)
  | reference r =>
    exact (BlockChange.referenceTaken s a r rest hin).path.trans (BlockPath.foldl (fun u n => u.dropOne_path r n) _ _)

/-- Taking all records at once is taking them one by one. -/
theorem foldl_takeRecord_path {a : Axis} (l : List AxisRecord) (s : State) (hin : s.inbox a = l) :
    BlockPath s (l.foldl takeRecord (s.setInbox a [])) := by
  induction l generalizing s with
  | nil =>
    have hsame : s.setInbox a [] = s := hin ▸ s.setInbox_self a
    rw [List.foldl_nil, hsame]
  | cons r l ih =>
    have hrest : ((s.setInbox a l).takeRecord r).inbox a = l := by simp
    have hsame : ((s.setInbox a l).takeRecord r).setInbox a [] = (s.setInbox a []).takeRecord r := by
      rw [← setInbox_takeRecord, setInbox_setInbox]
    rw [List.foldl_cons, ← hsame]
    exact (takeOldest_path hin).trans (ih _ hrest)

variable (s)

theorem drain_path (a : Axis) : BlockPath s (s.drain a) := foldl_takeRecord_path _ s rfl

theorem shareEvent_path (a : Axis) (makers : Makers) (now : Bool) (note : Option Report) :
    BlockPath s (s.shareEvent a makers now note) := by
  unfold shareEvent
  dsimp only
  split
  · exact (s.routeIn_path makers .axis note).trans ((drain_path _ a).trans (routeIn_path _ makers .table note))
  · exact s.routeIn_path makers .axis note

end State

/-! ### The axis units -/

/-- One axis unit changed, but for a reference. -/
theorem BlockChange.axis (s : State) (a : Axis) (u : AxisUnit) (hok : (s.axis a).Ok → u.Ok)
    (hepoch : u.epoch = (s.axis a).epoch) (hmodulus : u.config.modulus = (s.axis a).config.modulus) :
    BlockChange s (s.setAxis a u) := by
  have hget : ∀ b : Axis, (s.axes.set a u)[b] = if b = a then u else s.axis b := s.setAxis_axis a u
  refine BlockChange.axes s (s.axes.set a u) (fun b => ?_) (fun b => ?_) (fun b => ?_) <;>
    rw [hget] <;> split
  · next h => exact h ▸ hok
  · exact id
  · next h => exact h ▸ hepoch
  · rfl
  · next h => exact h ▸ hmodulus
  · rfl

/-- One context of each view changed. -/
theorem BlockChange.forContexts (s : State) (a : Axis) (g : Context → Context)
    (hg : ∀ c : Context, c.InLimits → (g c).InLimits) : BlockChange s (s.forContexts a g) := by
  refine BlockChange.contexts s (s.forContexts a g).views (fun p => ?_) (fun p b hb => ?_)
  · change ((s.forContexts a g).view p).masks = _
    rw [State.forContexts_view]
  · change ((s.forContexts a g).view p).contexts[b].InLimits
    rw [State.forContexts_view]
    by_cases h : a = b
    · subst h
      simpa using hg _ hb
    · have hne : a.val ≠ b.val := fun hval => h (Fin.ext hval)
      simpa [hne] using hb

/-- A count stays within the limits of the delta (R131, R132). -/
theorem Context.InLimits.add {c : Context} (h : c.InLimits) (dir : CountDir) : (c.add dir).InLimits := by
  unfold InLimits at *
  unfold Context.add
  cases dir <;> dsimp only <;> split <;> simp_all <;> omega

namespace State

variable (s : State) (a : Axis)

theorem countMoved_path (dir : CountDir) : BlockPath s (s.countMoved a dir) := by
  refine (BlockChange.axis s a _ (fun h => h.count dir) rfl rfl).path.trans
    ((BlockChange.forContexts _ a (Context.add dir) fun _ hc => hc.add dir).path.trans
      (BlockChange.arrival _ a _ rfl ?_).path)
  simp

theorem countArrival_path (dir : CountDir) (makers : Makers) : BlockPath s (s.countArrival a dir makers) := by
  have hmonitor : ∀ u : AxisUnit, u.monitorCount.epoch = u.epoch ∧
      u.monitorCount.config.modulus = u.config.modulus := fun u => by rw [monitorCount_eq]; exact ⟨rfl, rfl⟩
  obtain ⟨hepoch, hmodulus⟩ := hmonitor ((s.countMoved a dir).axis a)
  exact (s.countMoved_path a dir).trans ((BlockChange.axis (s.countMoved a dir) a _ (fun h => h.monitorCount) hepoch
    hmodulus).path.trans (shareEvent_path _ a makers false _))

theorem phaseSkip_path : BlockPath s (s.phaseSkip a) := by
  unfold phaseSkip
  dsimp only
  split
  · exact .refl
  · exact (BlockChange.axis s a _ (fun h => h.setDoubt true) rfl rfl).path.trans
      ((BlockChange.forContexts _ a (fun c => { c with doubtSeen := true }) fun _ => id).path.trans (route_path _ _))

/-- A reference, behind a change of the axis unit that is one step with it (R19, R30). -/
theorem setAxis_referenceMoved_path (u : AxisUnit) (reason : Reason) (v : Word)
    (hok : (s.axis a).Ok →
      AxisUnit.Ok { u with position := v, revolution := 0, epoch := u.epoch + 1, doubt := false })
    (hepoch : u.epoch = (s.axis a).epoch)
    (hmodulus : u.config.modulus = (s.axis a).config.modulus ∨ s.armList a = []) :
    BlockPath s ((s.setAxis a u).referenceMoved a reason v) := by
  have hstep := BlockChange.reference s a
    { u with position := v, revolution := 0, epoch := u.epoch + 1, doubt := false }
    ⟨a, reason, u.position, v, u.epoch + 1, s.tick⟩ hok (by rw [hepoch]) hmodulus rfl (by rw [hepoch])
  refine hstep.path.trans ?_
  have hsame : (s.setAxis a u).referenceMoved a reason v =
      ((s.setAxis a { u with position := v, revolution := 0, epoch := u.epoch + 1, doubt := false }).handToTable a
        (.reference ⟨a, reason, u.position, v, u.epoch + 1, s.tick⟩)).forContexts a
          (fun c => { c with rerefSince := true }) := by
    simp only [referenceMoved, setAxis_axis_self, setAxis_setAxis, setAxis_tick]
    rfl
  rw [hsame]
  exact (BlockChange.forContexts _ a (fun c => { c with rerefSince := true }) fun _ => id).path

theorem referenceMoved_path (reason : Reason) (v : Word)
    (hv : (s.axis a).Ok → inRange (s.axis a).config.modulus v = true) :
    BlockPath s (s.referenceMoved a reason v) := by
  have h := s.setAxis_referenceMoved_path a (s.axis a) reason v (fun hok => hok.reference (hv hok)) rfl (.inl rfl)
  rwa [setAxis_self] at h

theorem edgeReference_path (reason : Reason) (v : Word) (makers : Makers)
    (hv : (s.axis a).Ok → inRange (s.axis a).config.modulus v = true) :
    BlockPath s (s.edgeReference a reason v makers) :=
  (s.referenceMoved_path a reason v hv).trans (shareEvent_path _ a makers false _)

theorem commandReference_path (reason : Reason) (v : Word) (makers : Makers)
    (hv : (s.axis a).Ok → inRange (s.axis a).config.modulus v = true) :
    BlockPath s (s.commandReference a reason v makers) :=
  (s.referenceMoved_path a reason v hv).trans (shareEvent_path _ a makers true _)

theorem takePhaseLevels_path : BlockPath s (s.takePhaseLevels a) :=
  (BlockChange.axis s a _ (fun h => h.takePhaseLevels) rfl rfl).path

theorem takeReferenceLevels_path : BlockPath s (s.takeReferenceLevels a) :=
  (BlockChange.axis s a _ (fun h => h.takeReferenceLevels) rfl rfl).path

theorem setRefState_path (r : RefState) : BlockPath s (s.setRefState a r) :=
  (BlockChange.axis s a _ (fun h => h.setRefState r) rfl rfl).path

theorem takeDecoded_path (makers : Makers) (d : Decoded) : BlockPath s (s.takeDecoded a makers d) := by
  cases d with
  | nothing => exact .refl
  | count dir => exact s.countArrival_path a dir makers
  | phaseSkip => exact s.phaseSkip_path a

theorem takeRefAction_path (makers : Makers) (x : RefAction) : BlockPath s (s.takeRefAction a makers x) := by
  cases x with
  | nothing => exact .refl
  | toWaitIndex => exact s.setRefState_path a .waitIndex
  | take reason next =>
    refine (s.setRefState_path a next).trans (edgeReference_path _ a reason _ makers fun h => ?_)
    simpa [setRefState] using h.preset

/-- An accepted AXIS_SET: a new modulus comes with a reference to 0 and finds no slot armed on the axis (R18, R19). -/
theorem configureAxis_path {c : AxisConfig} (hc : c.inRange = true)
    (hfree : c.recountsFrom (s.axis a).config = true → s.armList a = []) : BlockPath s (s.configureAxis a c) := by
  unfold configureAxis
  dsimp only
  split
  next hchanged =>
    have hempty : s.armList a = [] := hfree (by simp [AxisConfig.recountsFrom, hchanged])
    refine (s.setAxis_referenceMoved_path a _ .config 0 (fun h => ?_) (by simp) (.inr hempty)).trans
      (shareEvent_path _ a _ true _)
    exact { h.configure hc with position := AxisUnit.inRange_zero, linear := fun _ => rfl }
  next hsame =>
    have hmodulus : c.modulus = (s.axis a).config.modulus := Decidable.not_not.mp hsame
    refine (BlockChange.axis s a _ (fun h => (h.configure hc).ok ?_ fun hzero => ?_) (by simp) hmodulus).path
    · rw [AxisUnit.configure_config, AxisUnit.configure_position, hmodulus]
      exact h.position
    · rw [AxisUnit.configure_config, hmodulus] at hzero
      rw [AxisUnit.configure_revolution]
      exact h.linear hzero

end State

end Sys2Proof.Machine

/-!
PROOF. Every command but DEVICE_RESET is a path of lawful changes (`exec_path`).
-/

namespace Sys2Proof.Machine

/-! ### What a description has agreed to (R55) -/

theorem LineAction.ofCode_pulse {code width w : Nat} (h : LineAction.ofCode code width = some (.pulse w)) :
    w = width ∧ 1 ≤ w := by
  unfold LineAction.ofCode at h
  split at h
  case h_4 =>
    split at h
    next => cases h
    next hw =>
      cases h
      exact ⟨rfl, Nat.one_le_iff_ne_zero.mpr hw⟩
  all_goals simp at h

theorem jobOf_pulse {code width w l : Nat} {line : Option Nat}
    (h : jobOf code line width = some (some (l, .pulse w))) : w = width ∧ 1 ≤ w := by
  unfold jobOf at h
  split at h
  · split at h <;> cases h
  · split at h
    next act l hact =>
      cases h
      exact LineAction.ofCode_pulse hact
    next => cases h

theorem repeatOf_some {dir : SlotDir} {pitch : Word} {total : Nat} {r : Repeat}
    (h : repeatOf dir pitch total = some (some r)) : r.firesTotal = total ∧ r.firesLeft = total ∧
      ((dir = .up ∧ 0 < r.pitch.toInt) ∨ (dir = .down ∧ r.pitch.toInt < 0)) := by
  unfold repeatOf at h
  split at h
  · split at h <;> cases h
  · split at h
    case h_1 => cases h
    all_goals
      split at h
      next hpitch =>
        cases h
        simp [hpitch]
      next => cases h

/-- The fields of a description agree (R40, R55). -/
theorem descriptionOf_agrees {ps : List Byte} {d : Description} (h : descriptionOf ps = some d) :
    (∀ l w, d.job = some (l, .pulse w) → 1 ≤ w ∧ w ≤ 65535) ∧
      ∀ r, d.rep = some r → r.firesTotal ≤ 65535 ∧ r.firesLeft ≤ r.firesTotal ∧
        ((d.dir = .up ∧ 0 < r.pitch.toInt) ∨ (d.dir = .down ∧ r.pitch.toInt < 0)) := by
  unfold descriptionOf at h
  split at h
  next =>
    split at h
    next job rep hjob hrep =>
      cases h
      refine ⟨fun l w hpulse => ?_, fun r hr => ?_⟩
      · cases hpulse
        obtain ⟨hw, hone⟩ := jobOf_pulse hjob
        have := (paramHalf ps 10).isLt
        omega
      · cases hr
        obtain ⟨htotal, hleft, hpitch⟩ := repeatOf_some hrep
        have := (paramHalf ps 16).isLt
        exact ⟨by omega, by omega, hpitch⟩
    next => cases h
  next => cases h

/-- What a description becomes (R57): STAGED, the port's, at its origin, with the description's fields. -/
theorem Description.toTrigger_some {d : Description} {p : Port} {s : State} {t : Trigger}
    (h : d.toTrigger p s = some t) : t.state = .staged ∧ t.owner = p ∧ t.target = t.origin ∧ t.dir = d.dir ∧
      t.rep = d.rep ∧ ∀ j, t.job = some j → d.job = some (j.line.val, j.act) := by
  unfold toTrigger at h
  split at h
  next a job successor _ hjob _ =>
    dsimp only at h
    split at h
    next =>
      cases h
      refine ⟨rfl, rfl, rfl, rfl, rfl, fun j hj => ?_⟩
      cases hd : d.job with
      | none => simp_all [jobInRange]
      | some x =>
        obtain ⟨l, act⟩ := x
        simp only [jobInRange, hd, Option.map_eq_some_iff] at hjob
        obtain ⟨l', hl, hsome⟩ := hjob
        rw [below_eq_some.mp hl]
        cases hj.symm.trans hsome.symm
        rfl
    next => cases h
  next => cases h

theorem Description.toTrigger_agrees {ps : List Byte} {d : Description} {p : Port} {s : State} {t : Trigger}
    (hd : descriptionOf ps = some d) (ht : d.toTrigger p s = some t) : t.Agrees := by
  obtain ⟨-, -, -, hdir, hrep, hjob⟩ := toTrigger_some ht
  obtain ⟨hpulse, hrepeat⟩ := descriptionOf_agrees hd
  refine ⟨fun j w hj hact => hpulse j.line.val w ?_, fun r hr => ?_⟩
  · rw [hjob j hj, hact]
  · rw [hdir]
    exact hrepeat r (hrep ▸ hr)

/-! ### Lines and time -/

theorem LinkChange.path {s t : State} (h : LinkChange s t) : Path s t := .single (.link h)

/-- One line changed that keeps its owner. -/
theorem BlockChange.line (s : State) (l : LineNo) (r : LineRec) (howner : r.owner = (s.line l).owner)
    (hidle : (s.line l).owner = none → (s.line l).Idle → r.Idle) : BlockChange s (s.setLine l r) := by
  have hget : ∀ m : LineNo, (s.lines.set l r)[m] = if m = l then r else s.line m := s.setLine_line l r
  refine BlockChange.lines s (s.lines.set l r) (fun m => ?_) (fun m => ?_) <;> rw [hget] <;> split
  · next h => rw [howner, h]
  · rfl
  · next h => rw [h]; exact hidle
  · exact fun _ => id

@[simp] theorem LineRec.act_owner (r : LineRec) (act : LineAction) : (r.act act).owner = r.owner := by
  cases act <;> rfl

theorem actLine_path {s : State} {p : Port} {l : LineNo} (act : LineAction) (h : (s.line l).owner = some p) :
    BlockPath s (s.actLine l act) :=
  (BlockChange.line s l _ (by simp) (by simp [h])).path

/-- A timer step keeps the laws of a session: a stopped timer stays stopped (R154). -/
theorem Session.Ok.stepTimer {r : Session} (h : r.Ok) : Session.Ok { r with timer := r.timer.step } :=
  ⟨h.closed, fun ht => h.timer (by simpa using ht)⟩

theorem Session.Ok.reload {r : Session} (h : r.Ok) : r.reload.Ok := by
  unfold Session.reload
  split
  next hopen =>
    obtain ⟨hstate, hpurge, -⟩ := hopen
    exact ⟨h.closed, fun _ => ⟨hstate, hpurge⟩⟩
  next => exact h

theorem Link.Ok.resynced {l : Link} (h : l.Ok) : l.resynced.Ok := by
  obtain ⟨hpending, hready, hdiscard, hrequest, htransaction, hframe⟩ := h
  cases hslot : l.slot with
  | empty =>
    rw [Link.resynced_of_empty hslot]
    exact ⟨hpending, hready, hdiscard, by simp [hslot], htransaction, hframe⟩
  | ready =>
    have hnone : l.flight = none := by simpa [hslot] using hpending
    have hmark : l.discard = false := by simpa [hslot] using hdiscard
    rw [Link.resynced_of_ready hslot]
    exact ⟨by simp [hnone], by simp, by simp [hmark], by simp, htransaction, hframe⟩
  | pending =>
    rw [Link.resynced_of_pending hslot]
    exact ⟨hpending, hready, fun _ => hslot, by simp, htransaction, hframe⟩

theorem Link.resynced_flight (l : Link) : l.resynced.flight = l.flight := by
  cases hslot : l.slot with
  | empty => rw [Link.resynced_of_empty hslot]
  | ready => rw [Link.resynced_of_ready hslot]
  | pending => rw [Link.resynced_of_pending hslot]

namespace State

variable {s : State}

theorem advanceTick_path : BlockPath s s.advanceTick := by
  have haxis : ∀ a : Axis, (Vector.ofFn fun a : Axis => { s.axis a with stallTimer := (s.axis a).stallTimer.step })[a]
      = { s.axis a with stallTimer := (s.axis a).stallTimer.step } := fun a => by simp
  have hline : ∀ l : LineNo, (Vector.ofFn fun l : LineNo => { s.line l with timer := (s.line l).timer.step })[l]
      = { s.line l with timer := (s.line l).timer.step } := fun l => by simp
  refine (BlockChange.time s (s.tick + 1) (s.periods - Config.periodsPerTick) s.inReset s.pins).path.trans
    ((BlockChange.axes _ (Vector.ofFn fun a : Axis => { s.axis a with stallTimer := (s.axis a).stallTimer.step })
      (fun a h => ?_) (fun a => ?_) (fun a => ?_)).path.trans
    ((BlockChange.lines _ (Vector.ofFn fun l : LineNo => { s.line l with timer := (s.line l).timer.step })
      (fun l => ?_) (fun l _ hidle => ?_)).path.trans
    (BlockChange.timers _ ⟨{ s.sessions.a with timer := s.sessions.a.timer.step },
      { s.sessions.b with timer := s.sessions.b.timer.step }, { s.sessions.c with timer := s.sessions.c.timer.step }⟩
      (fun p => ?_) (fun p h => ?_)).path))
  · rw [haxis]
    exact AxisUnit.Ok.stepTimer h
  · rw [haxis]
    rfl
  · rw [haxis]
    rfl
  · rw [hline]
    rfl
  · rw [hline]
    obtain ⟨hstate, htimer⟩ := hidle
    exact ⟨hstate, (Timer.step_eq_stopped_iff _).mpr htimer⟩
  · cases p <;> rfl
  · cases p <;> exact Session.Ok.stepTimer h

theorem takeSample_path (pins : Vector AxisPins 4) (hdue : s.sampleDue = true) : BlockPath s (s.takeSample pins) := by
  have hnone : ∀ a : Axis, (s.axis a).outstanding = false := by
    simp only [sampleDue, decide_eq_true_eq] at hdue
    obtain ⟨-, -, hany⟩ := hdue
    intro a
    rw [List.any_eq_false] at hany
    simpa using hany a (by revert a; decide)
  have haxis : ∀ a : Axis,
      (Vector.ofFn fun a : Axis => { s.axis a with inputs := (s.axis a).inputs.sample pins[a] })[a]
        = { s.axis a with inputs := (s.axis a).inputs.sample pins[a] } := fun a => by simp
  refine (BlockChange.time s s.tick (s.periods + 1) s.inReset pins).path.trans
    (BlockChange.axes _ (Vector.ofFn fun a : Axis => { s.axis a with inputs := (s.axis a).inputs.sample pins[a] })
      (fun a h => ?_) (fun a => ?_) (fun a => ?_)).path <;> rw [haxis]
  · exact AxisUnit.Ok.sample h (hnone a) _
  · rfl
  · rfl

theorem inputSettling_path (a : Axis) (i : Input) : Path s (
    if ((s.axis a).inputs.get i).settleDue (s.axis a).config.filterLen then
      s.setAxis a { s.axis a with inputs := (s.axis a).inputs.set i ((s.axis a).inputs.get i).settle } else s) := by
  split
  · exact (BlockChange.axis s a _ (fun h => h.settle i) rfl rfl).path.path
  · exact .refl

theorem acceptedChange_path (a : Axis) (inputs : InputPair) (makers : Makers) {t : State}
    (h : exec (.acceptedChange a inputs makers) s = .next t) : BlockPath s t := by
  cases hdue : (s.axis a).pairDue inputs with
  | false =>
    rw [exec_acceptedChange_notDue hdue] at h
    cases h
    exact .refl
  | true =>
    cases inputs with
    | phases =>
      rw [exec_acceptedChange_phases hdue] at h
      cases h
      exact (s.takePhaseLevels_path a).trans (takeDecoded_path _ a makers _)
    | references =>
      rw [exec_acceptedChange_references hdue rfl rfl] at h
      cases h
      exact (s.takeReferenceLevels_path a).trans (takeRefAction_path _ a makers _)

theorem stallTimerExpiry_path (a : Axis) (hdue : (s.axis a).stallTimer = .due) : BlockPath s
    ((s.setAxis a { s.axis a with motion := .still, stallTimer := .stopped }).route (s.axisReport a .still)) :=
  (BlockChange.axis s a _ (fun h => h.stall hdue) rfl rfl).path.trans (route_path _ _)

theorem matchCountArrival_path (a : Axis) {t : State} (h : exec (.matchCountArrival a) s = .next t) :
    BlockPath s t := by
  change execMatchCountArrival a s = .next t at h
  unfold execMatchCountArrival at h
  split at h
  next r rest hin =>
    cases h
    exact takeOldest_path (r := .arrival r) hin
  next =>
    cases h
    exact .refl

theorem referenceRecord_path (a : Axis) {t : State} (h : exec (.referenceRecord a) s = .next t) : BlockPath s t := by
  change execReferenceRecord a s = .next t at h
  unfold execReferenceRecord at h
  split at h
  next r rest hin =>
    cases h
    exact takeOldest_path (r := .reference r) hin
  next =>
    cases h
    exact .refl

/-! ### Commands of one step -/

variable {c : Cmd} {p : Port} {req : Request}

theorem Runs.working (h : s.Runs c p req) (hc : c.needsSession = true) : s.Working p :=
  ⟨h.opened hc, req, h.flight.1⟩

theorem runnable_flight (h : s.runnable c p = some req) :
    (s.link p).flight = some ⟨req, .started⟩ ∧ req.command = some c ∧ (c.atArbiter = true → s.grant = some p) := by
  unfold runnable at h
  split at h
  next req' hflight =>
    split at h
    next hc =>
      cases h
      exact ⟨hflight, hc⟩
    next => cases h
  next => cases h

/-- A command whose first step is due may be answered. -/
theorem complete_of_runnable (h : s.runnable c p = some req) (r : Result) (data : List Byte) :
    LinkChange s (s.complete p req r data) := by
  obtain ⟨hflight, hcommand, hgrant⟩ := runnable_flight h
  refine LinkChange.complete s p req r data (by simp [hflight]) fun ⟨req', c', hflight', hcommand', hat⟩ => ?_
  cases hflight.symm.trans hflight'
  cases hcommand.symm.trans hcommand'
  exact hgrant hat

/-- A command of one step is a path if its effects are. -/
theorem runCommand_path {body : List Byte → State → Reply}
    (hbody : ∀ req s' data, s.Runs c p req → body req.params s = .ok s' data → BlockPath s s') :
    Path s (s.runCommand c p body) := by
  cases hrun : s.runnable c p with
  | none => rw [runCommand_of_notDue hrun]
  | some req =>
    cases hcheck : s.commonCheck c p req with
    | some r =>
      rw [runCommand_of_check hrun hcheck]
      exact LinkChange.path (complete_of_runnable hrun r [])
    | none =>
      cases hb : body req.params s with
      | refuse r =>
        rw [runCommand_refuse ⟨hrun, hcheck⟩ hb]
        exact LinkChange.path (complete_of_runnable hrun r [])
      | ok s' data =>
        rw [runCommand_ok ⟨hrun, hcheck⟩ hb]
        have hpath := hbody req s' data ⟨hrun, hcheck⟩ hb
        obtain ⟨-, -, hlinks, hgrant, -⟩ := hpath.outside
        have hdue : s'.runnable c p = some req := by
          rw [← hrun]
          simp only [runnable, link, hlinks, hgrant]
        exact hpath.path.trans (LinkChange.path (complete_of_runnable hdue .ok data))

/-- A command that changes nothing but its response. -/
theorem runCommand_path_of_same {body : List Byte → State → Reply}
    (hbody : ∀ ps s' data, body ps s = .ok s' data → s' = s) : Path s (s.runCommand c p body) :=
  runCommand_path fun _ _ _ _ hb => hbody _ _ _ hb ▸ .refl

theorem trigDefine_path {req : Request} {s' : State} {data : List Byte} (hrun : s.Runs .trigDefine p req)
    (hb : trigDefineBody p req.params s = .ok s' data) : BlockPath s s' := by
  obtain ⟨d, t, n, hd, ht, hline, hquota, hfree, rfl⟩ := trigDefineBody_effect hb
  obtain ⟨hstate, howner, htarget, -⟩ := Description.toTrigger_some ht
  exact (BlockChange.define s p n t (hrun.working rfl) hfree hstate howner htarget
    (Description.toTrigger_agrees hd ht) hline hquota).path

theorem trigDelete_path {ps : List Byte} {s' : State} {data : List Byte}
    (hb : trigDeleteBody p ps s = .ok s' data) : BlockPath s s' := by
  obtain ⟨n, t, hslot, -, hstate, rfl⟩ := trigDeleteBody_effect hb
  exact delete_path hslot hstate

/-! ### SNAP -/

theorem snap_path : Path s (match s.runnable .snap p with
    | none => s
    | some req =>
      match s.commonCheck .snap p req with
      | some r => s.complete p req r []
      | none =>
        let mask := paramNat req.params 0
        if mask = 0 ∨ 15 < mask then s.complete p req .range []
        else s.setLink p { s.link p with flight := some ⟨req, .snapping ⟨axesOfMask mask, 0, []⟩⟩ }) := by
  split
  next => exact .refl
  next req hrun =>
    split
    next r _ => exact LinkChange.path (complete_of_runnable hrun r [])
    next =>
      dsimp only
      obtain ⟨hflight, hcommand, -⟩ := runnable_flight hrun
      split
      · exact LinkChange.path (complete_of_runnable hrun _ [])
      · exact LinkChange.path (LinkChange.snapping s p req _ _ hflight (.inl ⟨rfl, hcommand⟩))

/-- A context reset is within its limits (R131). -/
theorem resetContext_path (s : State) (p : Port) (a : Axis) : BlockPath s (s.resetContext p a) := by
  refine (BlockChange.contexts s (s.views.set p { s.view p with
    contexts := (s.view p).contexts.set a (.resetAt s.tick) }) (fun q => ?_) (fun q b hb => ?_)).path <;>
    rw [PerPort.get_set] <;> split
  · next h => rw [h]
  · rfl
  · next h =>
    subst h
    by_cases hab : a = b
    · subst hab
      simp [Context.InLimits, Context.resetAt]
    · have hne : a.val ≠ b.val := fun hval => hab (Fin.ext hval)
      simpa [hne] using hb
  · exact hb

theorem snapAxisStep_path {t : State} (h : exec (.snapAxisStep p) s = .next t) : Path s t := by
  simp only [exec, execSnapAxisStep] at h
  split at h
  next req a rest flags records hflight =>
    have hflight' : ((s.resetContext p a).link p).flight = some ⟨req, .snapping ⟨a :: rest, flags, records⟩⟩ := hflight
    have hnot : ¬(s.resetContext p a).AtArbiter p := fun ⟨req', c', hstarted, _⟩ => by
      rw [hflight'] at hstarted
      simp at hstarted
    refine (s.resetContext_path p a).path.trans (LinkChange.path ?_)
    split at h
    · cases h
      exact LinkChange.complete _ p req .ok _ (by simp [hflight']) fun hat => absurd hat hnot
    · cases h
      exact LinkChange.snapping _ p req _ _ hflight' (.inr ⟨_, rfl⟩)
  next =>
    cases h
    exact .refl

/-! ### Sessions -/

theorem closeSession_path {t : State} (h : exec (.closeSession p) s = .next t) : Path s t := by
  simp only [exec, execCloseSession] at h
  split at h
  next =>
    cases h
    exact .refl
  next req hrun =>
    split at h
    next r _ =>
      cases h
      exact LinkChange.path (complete_of_runnable hrun r [])
    next hcheck =>
      cases h
      obtain ⟨hflight, -, hgrant⟩ := runnable_flight hrun
      have hopened : (s.session p).state = .opened := Runs.opened ⟨hrun, hcheck⟩ rfl
      have hstage : ∀ f, ((s.setLink p { s.link p with flight := some ⟨req, .closing⟩ }).link p).flight = some f →
          f.stage = .held ∨ f.stage = .closing := fun f hf => by
        rw [setLink_link_self] at hf
        cases hf
        exact .inr rfl
      exact (LinkChange.path (LinkChange.closing s p req hflight (hgrant rfl))).trans
        (BlockChange.beginPurge (s.setLink p { s.link p with flight := some ⟨req, .closing⟩ }) p false (.inl hopened)
          hstage).path.path

theorem keepaliveExpiry_path (hdue : s.keepaliveDue p = true) :
    Path s ((s.dropWaiting p).setSession p (((s.dropWaiting p).session p).beginPurge true)) := by
  obtain ⟨htimer, hrunning⟩ : (s.session p).timer = .due ∧ s.running p = false := by
    simpa [keepaliveDue] using hdue
  unfold dropWaiting
  split
  next hflight =>
    refine (LinkChange.path (LinkChange.drop s p (by simp [hflight]) hrunning)).trans
      (BlockChange.beginPurge _ p true (.inr (by simpa using htimer)) fun f hf => ?_).path.path
    simp [Link.drop] at hf
  next hflight =>
    exact (BlockChange.beginPurge s p true (.inr htimer) fun f hf => by simp [hflight] at hf).path.path

/-- A step of a purge: the block's work, then the mark. -/
theorem purgeStep_path {due : Purge → Bool} {mark : Purge → Purge} {work : State → State}
    (hwork : ∀ g, (s.session p).purge = some g → due g = true →
      BlockChange s (work s) ∧ (work s).session p = s.session p ∧
        ((work s).GivenBack p g → (work s).GivenBack p (mark g)) ∧
        ((g.lines = true → g.table = true) → (mark g).lines = true → (mark g).table = true) ∧
        ((mark g).notes = true → g.notes = true ∨ ((work s).note p).intake = false)) :
    BlockPath s (s.purgeStep p due mark work) := by
  cases hg : (s.session p).purge with
  | none => simp only [purgeStep, hg, Relation.ReflTransGen.refl]
  | some g =>
    cases hd : due g with
    | false => rw [purgeStep_of_notDue hg hd]
    | true =>
      rw [purgeStep_of_due hg hd]
      obtain ⟨hchange, hsession, hgiven, hafter, hnotes⟩ := hwork g hg hd
      exact hchange.path.trans (BlockChange.mark _ p g _ (by rw [hsession, hg]) hgiven hafter hnotes).path

theorem ownsSlot_purgeTable (s : State) (p : Port) (n : SlotNo) : (s.purgeTable p).ownsSlot p n = false := by
  unfold ownsSlot
  rw [purgeTable_slot]
  cases s.slot n with
  | none => rfl
  | some t => by_cases h : t.owner = p <;> simp [h]

theorem tablePurge_path : BlockPath s
    (s.purgeStep p (fun g => !g.table) (fun g => { g with table := true }) (purgeTable p)) :=
  purgeStep_path fun _ _ _ => ⟨.purgeTable s p, congrArg (·.get p) (s.purgeTable_kept p).sessions,
    fun h => { h with slots := fun _ => s.ownsSlot_purgeTable p }, fun _ _ => rfl, .inl⟩

theorem linePurge_path : BlockPath s
    (s.purgeStep p (fun g => g.table && !g.lines) (fun g => { g with lines := true }) (purgeLines p)) :=
  purgeStep_path fun g hg hd => by
    obtain ⟨htable, -⟩ : g.table = true ∧ g.lines = false := by simpa using hd
    refine ⟨.purgeLines s p g hg htable, rfl, fun h => { h with lines := fun _ l => ?_ }, fun _ _ => htable, .inl⟩
    rw [purgeLines_line]
    split
    · exact nofun
    · assumption

theorem notePurge_path : BlockPath s
    (s.purgeStep p (fun g => !g.notes) (fun g => { g with notes := true }) (purgeNotes p)) :=
  purgeStep_path fun _ _ _ => ⟨.purgeNotes s p, rfl, fun h => { h with }, id,
    fun _ => .inr (congrArg NoteUnit.intake (setNote_note_self _ _ _))⟩

theorem viewPurge_path : BlockPath s
    (s.purgeStep p (fun g => !g.view) (fun g => { g with view := true }) (purgeView p)) :=
  purgeStep_path fun _ _ _ => ⟨.purgeView s p, rfl, fun h => { h with masks := fun _ a => by simp [purgeView, View.resetAt] },
    id, .inl⟩

theorem rightsPurge_path : BlockPath s
    (s.purgeStep p (fun g => !g.rights) (fun g => { g with rights := true }) (purgeRights p)) :=
  purgeStep_path fun _ _ _ => by
    refine ⟨.purgeRights s p, rfl, fun h => { h with rights := fun _ a => ?_ }, id, .inl⟩
    rw [purgeRights_axisRight]
    split
    · exact nofun
    · assumption

/-- A command held, or just accepted, goes on its way (R173). -/
theorem startOnWay_path (hflight : (s.link p).flight = some ⟨req, .held⟩) (hpurge : (s.session p).purge = none) :
    LinkChange s (s.startOnWay p req) := by
  cases hcommand : req.command with
  | some c => exact LinkChange.start s p req c hflight hcommand hpurge
  | none =>
    have heq : s.startOnWay p req = s.complete p req .unknown [] := by simp [startOnWay, hcommand]
    rw [heq]
    refine LinkChange.complete s p req .unknown [] (by simp [hflight]) fun ⟨req', c', hstarted, _⟩ => ?_
    rw [hflight] at hstarted
    simp at hstarted

theorem afterPurge_path (hpurge : (s.session p).purge = none) : Path s (s.afterPurge p) := by
  unfold afterPurge
  split
  next req hflight =>
    refine LinkChange.path (LinkChange.complete s p req .ok [] (by simp [hflight]) fun ⟨req', c', hstarted, _⟩ => ?_)
    rw [hflight] at hstarted
    simp at hstarted
  next req hflight => exact LinkChange.path (startOnWay_path hflight hpurge)
  next => exact .refl

theorem purgeClose_path {t : State} (h : exec (.purgeClose p) s = .next t) : Path s t := by
  simp only [exec, execPurgeClose] at h
  split at h
  next g hg =>
    split at h
    next hall =>
      cases h
      exact (BlockChange.closeSession s p g hg hall).path.path.trans
        (afterPurge_path (by simp [State.closeSession, Session.close]))
    next =>
      cases h
      exact .refl
  next =>
    cases h
    exact .refl

/-! ### Port links -/

theorem deselect_path (s : State) (p : Port) : LinkChange s (s.setLink p (s.link p).deselect) :=
  LinkChange.link s p _ (fun h => { h with transaction := nofun, frame := fun _ => rfl }) rfl

/-- The end of a transaction is a path if the verdict's work is. -/
theorem endTransaction_path {work : State → State} (hwork : ∀ u, Path u (work u)) :
    Path s (s.endTransaction p work) := by
  unfold endTransaction
  dsimp only
  split
  · exact (LinkChange.path (s.deselect_path p)).trans (hwork _)
  · exact LinkChange.path (s.deselect_path p)

/-- A reject note alone (R169, R171). -/
theorem setReject_path (s : State) (p : Port) (reason : Reject) (tag : Byte) :
    LinkChange s (s.setLink p { s.link p with reject := reason, rejectTag := tag }) :=
  LinkChange.link s p _ (fun h => { h with }) rfl

theorem acceptRequest_path (hslot : (s.link p).slot ≠ .pending) : Path s (s.acceptRequest p req) := by
  rw [acceptRequest_eq]
  have haccept := LinkChange.path (LinkChange.accept s p req hslot)
  split
  next hpurge => exact haccept.trans (LinkChange.path (startOnWay_path (by simp [Link.accept]) hpurge))
  next => exact haccept

theorem takeFrame_path : Path s (s.takeFrame p req) := by
  unfold takeFrame
  dsimp only
  split
  next => exact LinkChange.path (s.setReject_path p _ _)
  next hslot =>
    split
    · exact LinkChange.path (s.setReject_path p _ _)
    · exact acceptRequest_path (by simp [hslot])
  next hslot => exact acceptRequest_path (by simp [hslot])

theorem reload_path (s : State) (p : Port) : BlockPath s (s.setSession p (s.session p).reload) := by
  have hsame : ∀ r : Session, r.reload = { r with timer := r.reload.timer } := fun r => by
    unfold Session.reload
    split <;> rfl
  refine (BlockChange.timers s (s.sessions.set p (s.session p).reload) (fun q => ?_) (fun q h => ?_)).path <;>
    rw [PerPort.get_set] <;> split
  · next h => rw [h]; exact hsame _
  · rfl
  · next hq => rw [hq] at h; exact h.reload
  · exact h

theorem judgeFrame_path (bytes : List Byte) : Path s (s.judgeFrame p bytes) := by
  unfold judgeFrame
  split
  · exact LinkChange.path (s.setReject_path p _ _)
  · exact (s.reload_path p).path.trans takeFrame_path

theorem transactionStart_path {t : State} (h : exec (.transactionStart p) s = .next t) : Path s t := by
  simp only [exec, execTransactionStart] at h
  split at h
  · cases h
    exact .refl
  · split at h
    · cases h
      exact LinkChange.path (LinkChange.link s p _ (fun hok => { hok with transaction := fun _ => rfl }) rfl)
    · cases h
      exact LinkChange.path (LinkChange.link s p _
        (fun hok => { hok with transaction := fun _ => rfl, frame := nofun }) rfl)

end State

/-! ### All commands -/

/-- Every command but DEVICE_RESET is a path of lawful changes. -/
theorem exec_path {c : Instr} {s t : State} (hreset : ∀ source, c ≠ .deviceReset source)
    (h : exec c s = .next t) : Path s t := by
  cases c
  case deviceReset source => exact absurd rfl (hreset source)
  case acceptedChange a inputs makers => exact (State.acceptedChange_path a inputs makers h).path
  case matchCountArrival a => exact (State.matchCountArrival_path a h).path
  case referenceRecord a => exact (State.referenceRecord_path a h).path
  case snapAxisStep p => exact State.snapAxisStep_path h
  case closeSession p => exact State.closeSession_path h
  case purgeClose p => exact State.purgeClose_path h
  case transactionStart p => exact State.transactionStart_path h
  all_goals cases h
  case tick =>
    split
    · exact State.advanceTick_path.path
    · exact .refl
  case inputSettling a i => exact State.inputSettling_path a i
  case stallTimerExpiry a =>
    split
    next hdue => exact (State.stallTimerExpiry_path a hdue).path
    next => exact .refl
  case pulseExpiry l =>
    split
    · exact (BlockChange.line s l { s.line l with state := .inactive, timer := .stopped } rfl fun _ _ => ⟨rfl, rfl⟩).path.path
    · exact .refl
  case keepaliveExpiry p =>
    split
    next hdue => exact State.keepaliveExpiry_path hdue
    next => exact .refl
  case tablePurge p => exact State.tablePurge_path.path
  case linePurge p => exact State.linePurge_path.path
  case notePurge p => exact State.notePurge_path.path
  case viewPurge p => exact State.viewPurge_path.path
  case axisRightsPurge p => exact State.rightsPurge_path.path
  case poll p bits =>
    split
    · exact State.endTransaction_path fun _ => .refl
    · exact .refl
  case resync p bits =>
    split
    · exact State.endTransaction_path fun u =>
        (LinkChange.link u p _ Link.Ok.resynced (Link.resynced_flight _)).path
    · exact .refl
  case requestFrame p bits =>
    split
    · exact State.endTransaction_path fun _ => State.judgeFrame_path _
    · exact .refl
  case nop p => exact State.runCommand_path_of_same fun _ _ _ hb => by cases hb; rfl
  case openSession p =>
    refine State.runCommand_path fun _ _ _ _ hb => ?_
    obtain ⟨k, quota, hclosed, hroom, rfl⟩ := openBody_effect hb
    exact (BlockChange.openSession s p k quota hclosed hroom).path
  case status p => exact State.runCommand_path_of_same fun _ _ _ => statusBody_effect
  case axisClaim p =>
    refine State.runCommand_path fun _ _ _ hrun hb => ?_
    obtain ⟨a, -, rfl⟩ := axisClaimBody_effect hb
    exact (BlockChange.right s a (some p) fun q hq => Option.some.inj hq ▸ hrun.working rfl).path
  case axisRelease p =>
    refine State.runCommand_path fun _ _ _ _ hb => ?_
    obtain ⟨a, -, rfl⟩ := axisReleaseBody_effect hb
    exact (BlockChange.right s a none nofun).path
  case axisSet p =>
    refine State.runCommand_path fun _ _ _ _ hb => ?_
    obtain ⟨a, c, hrange, hfree, rfl⟩ := axisSetBody_effect hb
    exact s.configureAxis_path a hrange hfree
  case axisClearDoubt p =>
    refine State.runCommand_path fun _ _ _ _ hb => ?_
    obtain ⟨a, rfl⟩ := axisClearDoubtBody_effect hb
    exact (BlockChange.axis s a _ (fun h => h.setDoubt false) rfl rfl).path
  case axisRead p => exact State.runCommand_path_of_same fun _ _ _ => axisReadBody_effect
  case axisRefarm p =>
    refine State.runCommand_path fun _ _ _ _ hb => ?_
    obtain ⟨a, r, rfl⟩ := axisRefarmBody_effect hb
    exact s.setRefState_path a r
  case axisPreset p makers =>
    refine State.runCommand_path fun _ _ _ _ hb => ?_
    obtain ⟨a, v, hv, rfl⟩ := axisPresetBody_effect hb
    exact s.commandReference_path a .preset v makers fun _ => hv
  case trigDefine p => exact State.runCommand_path fun _ _ _ => State.trigDefine_path
  case trigArm p =>
    refine State.runCommand_path fun _ _ _ _ hb => ?_
    obtain ⟨n, t, hslot, -, hstate, hfits, rfl⟩ := trigArmBody_effect hb
    exact (BlockChange.arm s n t hslot hstate hfits).path
  case trigDisarm p =>
    refine State.runCommand_path fun _ _ _ _ hb => ?_
    obtain ⟨n, t, hslot, -, hstate, rfl⟩ := trigDisarmBody_effect hb
    exact (BlockChange.unarm s n t .staged hslot (by simp [hstate]) nofun).path
  case trigDelete p => exact State.runCommand_path fun _ _ _ _ => State.trigDelete_path
  case trigRead p => exact State.runCommand_path_of_same fun _ _ _ => trigReadBody_effect
  case trigList p => exact State.runCommand_path_of_same fun _ _ _ => trigListBody_effect
  case lineClaim p =>
    refine State.runCommand_path fun _ _ _ hrun hb => ?_
    obtain ⟨l, polarity, release, hfree, rfl⟩ := lineClaimBody_effect hb
    exact (BlockChange.claimLine s p l polarity release (hrun.working rfl) hfree).path
  case lineRelease p =>
    refine State.runCommand_path fun _ _ _ _ hb => ?_
    obtain ⟨l, howner, hfree, rfl⟩ := lineReleaseBody_effect hb
    exact (BlockChange.releaseLine s p l howner hfree).path
  case lineDrive p =>
    refine State.runCommand_path fun _ _ _ _ hb => ?_
    obtain ⟨l, act, howner, rfl⟩ := lineDriveBody_effect hb
    exact actLine_path act howner
  case lineRead p => exact State.runCommand_path_of_same fun _ _ _ => lineReadBody_effect
  case noteRead p => exact State.runCommand_path_of_same fun _ _ _ => noteReadBody_effect
  case noteAck p =>
    refine State.runCommand_path fun _ _ _ _ hb => ?_
    obtain ⟨k, rfl⟩ := noteAckBody_effect hb
    exact s.acknowledged_path p k
  case snap p => exact State.snap_path
  case subscribe p =>
    refine State.runCommand_path fun _ _ _ hrun hb => ?_
    obtain ⟨a, mask, rfl⟩ := subscribeBody_effect hb
    exact (BlockChange.subscribe s p a mask (hrun.working rfl)).path
  case sample pins =>
    split
    next hdue => exact (State.takeSample_path pins hdue).path
    next => exact .refl
  case resetRelease => exact (BlockChange.time s s.tick s.periods false s.pins).path.path

end Sys2Proof.Machine

/-!
PROOF. The invariants of the session records (O52) and of the notification units (O53): what each kind of change does to
them.
-/

namespace Sys2Proof.Machine

/-! ### Invariants by kinds of change -/

/-- An invariant that holds after DEVICE_RESET, does not look at the queue and is kept by each kind of change. -/
structure KeptByChanges (I : State → Prop) : Prop where
  queue : ∀ s l, I s → I { s with pending := l }
  reset : ∀ s source, I s → I (s.underReset source)
  block : ∀ {s t}, BlockChange s t → I s → I t
  link : ∀ {s t}, LinkChange s t → I s → I t

namespace KeptByChanges

variable {I : State → Prop}

theorem path (h : KeptByChanges I) {s t : State} (hpath : Path s t) (hs : I s) : I t := by
  induction hpath with
  | refl => exact hs
  | tail _ hlast ih =>
    cases hlast with
    | block hblock => exact h.block hblock ih
    | link hlink => exact h.link hlink ih

theorem exec (h : KeptByChanges I) {c : Instr} {s t : State} (hs : I s) (hexec : exec c s = .next t) : I t := by
  by_cases hreset : ∃ source, c = .deviceReset source
  · obtain ⟨source, rfl⟩ := hreset
    cases (exec_deviceReset source s).symm.trans hexec
    exact h.reset s source hs
  · exact h.path (exec_path (fun source hc => hreset ⟨source, hc⟩) hexec) hs

/-- Every step keeps such an invariant. -/
theorem step (h : KeptByChanges I) (s t : State) (hs : I s) (hstep : step s = .next t) : I t := by
  unfold Machine.step at hstep
  split at hstep
  next =>
    cases hstep
    exact hs
  next c rest _ => exact h.exec (h.queue s rest hs) hstep

end KeptByChanges

/-- A change of a link unit leaves the blocks as they are. -/
theorem LinkChange.sameBlocks {s t : State} (h : LinkChange s t) : SameBlocks s t := by
  cases h <;> simp [SameBlocks, SameTime, SameAxes, SameTable, SameLines, SameNotes, SameViews, SameSessions, SameRights]

/-! ### Session records -/

namespace Session

variable {r : Session}

theorem ok_reset : Session.reset.Ok := ⟨fun _ => ⟨rfl, rfl, rfl⟩, fun h => absurd rfl h⟩

/-- Only an OPEN session is ending (R145). -/
theorem Ok.opened_of_purge (h : r.Ok) {g : Purge} (hg : r.purge = some g) : r.state = .opened := by
  cases hs : r.state with
  | opened => rfl
  | closed => simp [(h.closed hs).1] at hg

theorem Ok.opened_of_due (h : r.Ok) (hopen : r.state = .opened ∨ r.timer = .due) : r.state = .opened :=
  hopen.elim id fun htimer => (h.timer (by simp [htimer])).1

theorem Ok.beginPurge (h : r.Ok) (byExpiry : Bool) (hopen : r.state = .opened ∨ r.timer = .due) :
    (r.beginPurge byExpiry).Ok :=
  ⟨fun hclosed => by simp [Session.beginPurge, h.opened_of_due hopen] at hclosed, fun ht => absurd rfl ht⟩

theorem Ok.mark (h : r.Ok) {g : Purge} (hg : r.purge = some g) (g' : Purge) : Session.Ok { r with purge := some g' } := by
  have hopen := h.opened_of_purge hg
  refine ⟨fun hclosed => ?_, fun ht => ?_⟩
  · simp [hopen] at hclosed
  · simp [(h.timer ht).2] at hg

theorem Ok.close (h : r.Ok) {g : Purge} (hg : r.purge = some g) : (r.close g).Ok := by
  refine ⟨fun _ => ⟨rfl, rfl, rfl⟩, fun ht => ?_⟩
  have htimer : r.timer ≠ .stopped := ht
  simp [(h.timer htimer).2] at hg

theorem Ok.opened (h : r.Ok) (hclosed : r.state = .closed) (k quota : Nat) : (r.opened k quota).Ok :=
  ⟨nofun, fun _ => ⟨rfl, (h.closed hclosed).1⟩⟩

end Session

namespace State

variable {s t : State}

theorem openSession_session (s : State) (p : Port) (k quota : Nat) (q : Port) :
    (s.openSession p k quota).session q = if q = p then (s.session p).opened k quota else s.session q :=
  setSession_session _ _ _ _

theorem closeSession_session (s : State) (p : Port) (g : Purge) (q : Port) :
    (s.closeSession p g).session q = if q = p then (s.session p).close g else s.session q :=
  setSession_session _ _ _ _

theorem markPurge_session (s : State) (p : Port) (g : Purge) (q : Port) :
    (s.markPurge p g).session q = if q = p then { s.session p with purge := some g } else s.session q :=
  setSession_session _ _ _ _

/-- The blocks' changes keep the laws of every session record. -/
theorem sessionsEach_block (h : BlockChange s t) (hs : ∀ p, (s.session p).Ok) (q : Port) : (t.session q).Ok := by
  cases h
  case mark p g g' hg _ _ _ =>
    rw [markPurge_session]
    split
    · exact (hs p).mark hg g'
    · exact hs q
  case timers x hsame hok => exact hok q (hs q)
  case beginPurge p byExpiry hopen _ =>
    rw [setSession_session]
    split
    · exact (hs p).beginPurge byExpiry hopen
    · exact hs q
  case closeSession p g hg _ =>
    rw [closeSession_session]
    split
    · exact (hs p).close hg
    · exact hs q
  case openSession p k quota hclosed _ =>
    rw [openSession_session]
    split
    · exact (hs p).opened hclosed k quota
    · exact hs q
  all_goals simpa [session, purgeTable, purgeLines, purgeNotes, purgeView, purgeRights] using hs q

/-- The unreserved quota with what the sessions have reserved. -/
def quotaTotal (s : State) : Nat := s.unreserved + (s.session .a).quota + (s.session .b).quota + (s.session .c).quota

theorem quotaTotal_congr (hsessions : ∀ p, (t.session p).quota = (s.session p).quota)
    (hunreserved : t.unreserved = s.unreserved) : t.quotaTotal = s.quotaTotal := by
  simp only [quotaTotal, hsessions, hunreserved]

/-- One session record and the unreserved quota changed so that their sum stays. -/
theorem quotaTotal_setSession (s : State) (p : Port) (r : Session) (k : Nat)
    (h : k + r.quota = s.unreserved + (s.session p).quota) :
    ({ s with unreserved := k : State }.setSession p r).quotaTotal = s.quotaTotal := by
  have hother : ∀ q, ({ s with unreserved := k : State }.setSession p r).session q = if q = p then r else s.session q :=
    setSession_session _ p r
  simp only [quotaTotal, hother, setSession_unreserved]
  cases p <;> simp <;> omega

theorem quotaTotal_block (h : BlockChange s t) (hs : ∀ p, (s.session p).Ok) : t.quotaTotal = s.quotaTotal := by
  cases h
  case mark p g g' _ _ _ _ => exact quotaTotal_setSession s p _ s.unreserved rfl
  case beginPurge p byExpiry _ _ => exact quotaTotal_setSession s p _ s.unreserved rfl
  case timers x hsame _ =>
    refine quotaTotal_congr (fun p => ?_) rfl
    change (x.get p).quota = _
    rw [hsame]
  case closeSession p g _ _ => exact quotaTotal_setSession s p _ _ rfl
  case openSession p k quota hclosed hroom =>
    refine quotaTotal_setSession s p _ _ ?_
    have hzero := ((hs p).closed hclosed).2.1
    rw [hzero]
    exact Nat.sub_add_cancel hroom
  all_goals exact quotaTotal_congr (by simp [session, purgeTable, purgeLines, purgeNotes, purgeView, purgeRights]) (by simp [purgeTable, purgeLines, purgeNotes, purgeView, purgeRights])

theorem SessionsOk.congr (h : s.SessionsOk) (hsame : SameSessions s t) : t.SessionsOk := by
  obtain ⟨hsessions, hunreserved⟩ := hsame
  have hsession : ∀ p, t.session p = s.session p := fun p => congrArg (·.get p) hsessions
  refine ⟨fun p => hsession p ▸ h.each p, ?_⟩
  simpa only [hsession, hunreserved] using h.quota

theorem sessionsOk_reset : State.reset.SessionsOk :=
  ⟨fun p => by simpa using Session.ok_reset, rfl⟩

theorem sessionsOk_kept : KeptByChanges SessionsOk where
  queue _ _ h := h.congr ⟨rfl, rfl⟩
  reset _ _ _ := sessionsOk_reset.congr ⟨rfl, rfl⟩
  block hchange h := ⟨sessionsEach_block hchange h.each, (quotaTotal_block hchange h.each).trans h.quota⟩
  link hchange h := by
    obtain ⟨-, -, -, -, -, -, hsessions, -⟩ := hchange.sameBlocks
    exact h.congr hsessions

end State

/-- Settles O52: each kind of change keeps the session records and the sum of the quotas (`State.sessionsOk_kept`). -/
theorem stepKeepsSessions : Obligations.StepKeepsSessions := State.sessionsOk_kept.step

/-! ### Notification units (R109 to R121) -/

/-- The notes carry consecutive numbers, the last of them one below `seq` (R113). -/
def Numbered (seq : Half) (l : List Note) : Prop :=
  l.map (·.seq) = (List.range l.length).map fun i => seq - BitVec.ofNat 16 (l.length - i)

theorem numbered_iff {seq : Half} {l : List Note} :
    Numbered seq l ↔ ∀ i (h : i < l.length), l[i].seq = seq - BitVec.ofNat 16 (l.length - i) := by
  refine ⟨fun hl i h => ?_, fun hl => List.ext_getElem (by simp) fun i h _ => ?_⟩
  · have := List.getElem_of_eq hl (i := i) (by simpa using h)
    simpa using this
  · simpa using hl i (by simpa using h)

theorem Numbered.drop {seq : Half} {l : List Note} (h : Numbered seq l) (k : Nat) : Numbered seq (l.drop k) := by
  rw [numbered_iff] at h ⊢
  intro i hi
  rw [List.length_drop] at hi
  rw [List.getElem_drop, h (k + i) (by omega), List.length_drop, Nat.sub_add_eq]

/-- Entries moved behind a queue take the next numbers (R119). -/
theorem Numbered.append {seq : Half} {l : List Note} (h : Numbered seq l) (moved : List Owed) :
    Numbered (seq + BitVec.ofNat 16 moved.length) (l ++ movedNotes seq moved) := by
  rw [numbered_iff] at h ⊢
  intro i hi
  rw [List.length_append, movedNotes_length] at hi ⊢
  by_cases hil : i < l.length
  · rw [List.getElem_append_left hil, h i hil, show l.length + moved.length - i = (l.length - i) + moved.length by omega,
      BitVec.ofNat_add]
    bv_omega
  · rw [List.getElem_append_right (Nat.le_of_not_lt hil)]
    simp only [movedNotes, List.getElem_map, List.getElem_zipIdx]
    rw [Nat.zero_add]
    obtain ⟨m, hm⟩ : ∃ m, moved.length = (i - l.length) + m := ⟨moved.length - (i - l.length), by omega⟩
    rw [show l.length + moved.length - i = m by omega, hm, BitVec.ofNat_add]
    bv_omega

/-- An entry of the owed list after a notification: one from before, or the one the notification made or went into
(R114). -/
theorem mem_owe {r : Report} {l : List Owed} {f : Owed} (h : f ∈ owe r l) :
    f ∈ l ∨ (f.report = r ∧ 1 ≤ f.count ∧ f.count ≤ Config.countCap) := by
  induction l with
  | nil =>
    rw [owe, List.mem_singleton] at h
    subst h
    exact .inr ⟨rfl, Nat.le_refl 1, by simp⟩
  | cons e l ih =>
    rw [owe] at h
    split at h
    · obtain rfl | h := List.mem_cons.mp h
      · refine .inr ⟨rfl, ?_, Nat.min_le_right _ _⟩
        simp
      · exact .inl (List.mem_cons_of_mem e h)
    · obtain rfl | h := List.mem_cons.mp h
      · exact .inl List.mem_cons_self
      · exact (ih h).imp_left (List.mem_cons_of_mem e)

/-- Each source and kind stays in the owed list at most once (R115). -/
theorem owe_pairwise {r : Report} {l : List Owed}
    (h : l.Pairwise fun e f => ¬(e.report.source = f.report.source ∧ e.report.kind = f.report.kind)) :
    (owe r l).Pairwise fun e f => ¬(e.report.source = f.report.source ∧ e.report.kind = f.report.kind) := by
  induction l with
  | nil => exact List.pairwise_singleton _ _
  | cons e l ih =>
    rw [List.pairwise_cons] at h
    obtain ⟨he, hl⟩ := h
    rw [owe]
    split
    next hkey =>
      obtain ⟨hsource, hkind⟩ := Owed.matchesKey_iff.mp hkey
      refine List.pairwise_cons.mpr ⟨fun f hf => ?_, hl⟩
      have hef := he f hf
      rwa [hsource, hkind] at hef
    next hkey =>
      refine List.pairwise_cons.mpr ⟨fun f hf => ?_, ih hl⟩
      obtain hf | ⟨rfl, -⟩ := mem_owe hf
      · exact he f hf
      · exact mt Owed.matchesKey_iff.mpr hkey

theorem owe_ne_nil (r : Report) (l : List Owed) : owe r l ≠ [] := by
  cases l with
  | nil => exact nofun
  | cons e l =>
    rw [owe]
    split <;> exact nofun

/-- A moved entry becomes a note with its count (R119). -/
theorem mem_movedNotes {seq : Half} {l : List Owed} {n : Note} (h : n ∈ movedNotes seq l) :
    ∃ e ∈ l, n.count = e.count := by
  simp only [movedNotes, List.mem_map, Prod.exists] at h
  obtain ⟨e, i, hmem, rfl⟩ := h
  exact ⟨e, List.fst_mem_of_mem_zipIdx hmem, rfl⟩

theorem ntfOf_eq_low_iff (q : List Note) : ntfOf q = .low ↔ q ≠ [] := by
  cases q <;> simp [ntfOf]

namespace NoteUnit

variable {u : NoteUnit}

theorem ok_reset : NoteUnit.reset.Ok where
  length := by simp [NoteUnit.reset]
  seqs := rfl
  full h := absurd rfl h
  once := List.Pairwise.nil
  noteCounts := by simp [NoteUnit.reset]
  owedCounts := by simp [NoteUnit.reset]
  ntf := by simp [NoteUnit.reset]
  off _ := ⟨rfl, rfl⟩

theorem take_intake (r : Report) (u : NoteUnit) : (u.take r).intake = u.intake := by
  unfold take
  split
  · split <;> rfl
  · rfl

theorem Ok.take (h : u.Ok) (r : Report) : (u.take r).Ok := by
  cases hon : u.intake with
  | false => rwa [take_of_intakeOff hon]
  | true =>
    by_cases hroom : u.queue.length < 16 ∧ u.owed = []
    · obtain ⟨hlen, howed⟩ := hroom
      rw [take_of_room hon hlen howed]
      have hseqs := Numbered.append (show Numbered u.nextSeq u.queue from h.seqs) [⟨1, r⟩]
      refine { h with length := ?_, seqs := ?_, full := ?_, noteCounts := ?_, ntf := ?_, off := ?_ }
      · simpa using hlen
      · simpa [Numbered, movedNotes] using hseqs
      · simp [howed]
      · intro n hn
        obtain hn | hn := List.mem_append.mp hn
        · exact h.noteCounts n hn
        · rw [List.mem_singleton.mp hn]
          exact ⟨Nat.le_refl 1, by simp⟩
      · simp
      · simp [hon]
    · have hfull : 16 ≤ u.queue.length ∨ u.owed ≠ [] := by
        rw [not_and_or] at hroom
        exact hroom.imp Nat.le_of_not_lt id
      have hsixteen : u.queue.length = Config.queueCap :=
        hfull.elim (fun hle => Nat.le_antisymm h.length hle) h.full
      rw [take_of_noRoom hon hfull]
      refine { h with full := fun _ => hsixteen, once := owe_pairwise h.once, owedCounts := ?_, off := ?_ }
      · intro e he
        obtain he | ⟨-, hcount⟩ := mem_owe he
        · exact h.owedCounts e he
        · exact hcount
      · simp [hon]

/-- An acknowledgement and the move behind it keep the laws of the unit (R118, R119). -/
theorem Ok.acknowledge (h : u.Ok) (k : Nat) : (u.afterMove (u.removed k)).Ok := by
  obtain ⟨j, hj⟩ : ∃ j, j = min (Config.queueCap - (u.queue.drop k).length) u.owed.length := ⟨_, rfl⟩
  obtain ⟨hqueue, hseq, howed, -, -⟩ := moveOwed_spec u.owed (u.queue.drop k) u.nextSeq j hj
  have hlen : (u.queue.drop k).length ≤ Config.queueCap := by
    have := h.length
    rw [List.length_drop]
    omega
  have htaken : (u.owed.take j).length = j := List.length_take_of_le (hj ▸ Nat.min_le_right _ _)
  unfold afterMove removed
  rw [hqueue, hseq, howed]
  refine ⟨?_, ?_, fun hleft => ?_, ?_, fun n hn => ?_, fun e he => ?_, ?_, fun hoff => ?_⟩
  · rw [List.length_append, movedNotes_length, htaken]
    omega
  · have hnumbered := Numbered.append (Numbered.drop (show Numbered u.nextSeq u.queue from h.seqs) k) (u.owed.take j)
    rwa [htaken] at hnumbered
  · have hlt : j < u.owed.length := by simpa using hleft
    rw [List.length_append, movedNotes_length, htaken]
    omega
  · exact h.once.sublist (List.drop_sublist _ _)
  · obtain hn | hn := List.mem_append.mp hn
    · exact h.noteCounts n (List.mem_of_mem_drop hn)
    · obtain ⟨e, he, hcount⟩ := mem_movedNotes hn
      rw [hcount]
      exact h.owedCounts e (List.mem_of_mem_take he)
  · exact h.owedCounts e (List.mem_of_mem_drop he)
  · exact ntfOf_eq_low_iff _
  · obtain ⟨hempty, hnone⟩ := h.off hoff
    simp [hempty, hnone]

/-- A unit that holds nothing starts its numbers again with a session (R128). -/
theorem Ok.restart (h : u.Ok) (hoff : u.intake = false) : Ok { u with intake := true, nextSeq := 0 } := by
  obtain ⟨hempty, hnone⟩ := h.off hoff
  exact { h with seqs := by simp [hempty], off := nofun }

end NoteUnit

/-- The laws of one port's session and notification unit together (R109, R127, R129). -/
structure PortNotesOk (r : Session) (u : NoteUnit) : Prop where
  unit : u.Ok
  closed : r.state = .closed → u.intake = false
  purged : ∀ g, r.purge = some g → g.notes = true → u.intake = false

namespace State

variable {s t : State}

theorem notesOk_iff : s.NotesOk ↔ (∀ p, (s.session p).Ok) ∧ ∀ p, PortNotesOk (s.session p) (s.note p) :=
  ⟨fun h => ⟨h.sessions, fun p => ⟨h.each p, h.closed p, h.purged p⟩⟩, fun ⟨hs, hn⟩ =>
    ⟨hs, fun p => (hn p).unit, fun p => (hn p).closed, fun p => (hn p).purged⟩⟩

theorem openSession_note (s : State) (p : Port) (k quota : Nat) (q : Port) :
    (s.openSession p k quota).note q = if q = p then { s.note p with intake := true, nextSeq := 0 } else s.note q :=
  setNote_note _ _ _ _

theorem portNotes_block (h : BlockChange s t) (hs : ∀ p, (s.session p).Ok)
    (hn : ∀ p, PortNotesOk (s.session p) (s.note p)) (q : Port) : PortNotesOk (t.session q) (t.note q) := by
  cases h
  case hand p r =>
    rw [hand_session, State.hand, setNote_note]
    split
    next hq =>
      subst hq
      obtain ⟨hunit, hclosed, hpurged⟩ := hn q
      refine ⟨hunit.take r, ?_, ?_⟩ <;> rwa [NoteUnit.take_intake]
    next => exact hn q
  case acknowledge p k =>
    rw [setNote_session, setNote_note]
    split
    next hq =>
      subst hq
      obtain ⟨hunit, hclosed, hpurged⟩ := hn q
      exact ⟨hunit.acknowledge k, hclosed, hpurged⟩
    next => exact hn q
  case purgeNotes p =>
    rw [purgeNotes, setNote_session, setNote_note]
    split
    · exact ⟨NoteUnit.ok_reset, fun _ => rfl, fun _ _ _ => rfl⟩
    · exact hn q
  case mark p g g' hg _ _ hnotes =>
    rw [markPurge_session, markPurge, setSession_note]
    split
    next hq =>
      subst hq
      obtain ⟨hunit, hclosed, hpurged⟩ := hn q
      refine ⟨hunit, hclosed, fun g'' hg'' hdone => ?_⟩
      cases hg''
      exact (hnotes hdone).elim (hpurged g hg) id
    next => exact hn q
  case timers x hsame _ =>
    obtain ⟨hunit, hclosed, hpurged⟩ := hn q
    have hq := hsame q
    refine ⟨hunit, fun hstate => hclosed ?_, fun g hg => hpurged g ?_⟩
    · exact (congrArg Session.state hq).symm.trans hstate
    · exact (congrArg Session.purge hq).symm.trans hg
  case beginPurge p byExpiry hopen _ =>
    rw [setSession_session, setSession_note]
    split
    next hq =>
      subst hq
      refine ⟨(hn q).unit, (hn q).closed, fun g hg hdone => ?_⟩
      cases hg
      cases hdone
    next => exact hn q
  case closeSession p g hg hall =>
    rw [closeSession_session, closeSession, setSession_note]
    split
    next hq =>
      subst hq
      have hdone : g.notes = true := by
        simp only [Purge.allDone, Bool.and_eq_true] at hall
        obtain ⟨⟨⟨-, hnotes⟩, -⟩, -⟩ := hall
        exact hnotes
      exact ⟨(hn q).unit, fun _ => (hn q).purged g hg hdone, nofun⟩
    next => exact hn q
  case openSession p k quota hclosed _ =>
    rw [openSession_session, openSession_note]
    split
    next hq =>
      subst hq
      refine ⟨(hn q).unit.restart ((hn q).closed hclosed), nofun, fun g hg => ?_⟩
      have hnone : (s.session q).purge = none := ((hs q).closed hclosed).1
      cases hnone.symm.trans hg
    next => exact hn q
  all_goals simpa [session, note, purgeTable, purgeLines, purgeNotes, purgeView, purgeRights] using hn q

theorem NotesOk.congr (h : s.NotesOk) (hsessions : t.sessions = s.sessions) (hnotes : t.notes = s.notes) :
    t.NotesOk := by
  have hsession : ∀ p, t.session p = s.session p := fun p => congrArg (·.get p) hsessions
  have hnote : ∀ p, t.note p = s.note p := fun p => congrArg (·.get p) hnotes
  rw [notesOk_iff] at h ⊢
  simpa only [hsession, hnote] using h

theorem notesOk_reset : State.reset.NotesOk := by
  rw [notesOk_iff]
  simp only [reset_session, reset_note]
  exact ⟨fun _ => Session.ok_reset, fun _ => ⟨NoteUnit.ok_reset, fun _ => rfl, nofun⟩⟩

theorem notesOk_kept : KeptByChanges NotesOk where
  queue _ _ h := h.congr rfl rfl
  reset _ _ _ := notesOk_reset.congr rfl rfl
  block hchange h := by
    rw [notesOk_iff] at h ⊢
    exact ⟨sessionsEach_block hchange h.1, portNotes_block hchange h.1 h.2⟩
  link hchange h := by
    obtain ⟨-, -, -, -, hnotes, -, ⟨hsessions, -⟩, -⟩ := hchange.sameBlocks
    exact h.congr hsessions hnotes

end State

/-- Settles O53: each kind of change keeps the notification units and the intake with the session
(`State.notesOk_kept`). -/
theorem stepKeepsNotificationUnits : Obligations.StepKeepsNotificationUnits := State.notesOk_kept.step

end Sys2Proof.Machine

/-!
PROOF. The invariants of the axis units and the contexts (O54) and of the epochs (O59).
-/

namespace Sys2Proof.Machine

/-! ### Axis units -/

theorem AxisUnit.ok_reset : AxisUnit.reset.Ok where
  filterLen := by decide
  modulus := by simp [AxisUnit.reset, AxisConfig.reset]
  position := rfl
  preset := rfl
  linear _ := rfl
  off := by simp [AxisUnit.reset, AxisConfig.reset]
  timer := by simp [AxisUnit.reset]
  pha := ⟨Nat.zero_le _, fun _ => rfl⟩
  phb := ⟨Nat.zero_le _, fun _ => rfl⟩
  idx := ⟨Nat.zero_le _, fun _ => rfl⟩
  home := ⟨Nat.zero_le _, fun _ => rfl⟩

namespace State

variable {s t : State}

theorem AxesOk.congr (h : s.AxesOk) (haxes : t.axes = s.axes) : t.AxesOk := fun a => by
  rw [axis, haxes]
  exact h a

theorem axesOk_reset : State.reset.AxesOk := fun a => by
  rw [reset_axis]
  exact AxisUnit.ok_reset

theorem axesOk_block (h : BlockChange s t) (hs : s.AxesOk) : t.AxesOk := by
  cases h
  case axes x hok _ _ => exact fun a => hok a (hs a)
  case reference a u r hok _ _ _ _ =>
    intro b
    rw [handToTable_axis, setAxis_axis]
    split
    · exact hok (hs a)
    · exact hs b
  all_goals exact hs.congr (by simp [purgeTable, purgeLines, purgeNotes, purgeView, purgeRights, handToTable,
    markPurge, closeSession, openSession])

theorem axesOk_kept : KeptByChanges AxesOk where
  queue _ _ h := h.congr rfl
  reset _ _ _ := axesOk_reset.congr rfl
  block hchange h := axesOk_block hchange h
  link hchange h := by
    obtain ⟨-, ⟨haxes, -⟩, -⟩ := hchange.sameBlocks
    exact h.congr haxes

/-! ### Contexts -/

theorem deltasOk_iff : s.DeltasOk ↔ ∀ p, ∀ a : Axis, (s.view p).contexts[a].InLimits := Iff.rfl

theorem DeltasOk.congr (h : s.DeltasOk) (hviews : t.views = s.views) : t.DeltasOk := fun p => by
  rw [view, hviews]
  exact h p

/-- A context just reset is within its limits. -/
theorem inLimits_resetAt (now : Word) (a : Axis) : (View.resetAt now).contexts[a].InLimits := by
  rw [(View.resetAt_get now a).1]
  simp [Context.InLimits]

/-- One view replaced by one within the limits. -/
theorem DeltasOk.setView (h : s.DeltasOk) (p : Port) {v : View} (hv : ∀ a : Axis, v.contexts[a].InLimits) :
    (s.setView p v).DeltasOk := by
  rw [deltasOk_iff] at h ⊢
  intro q
  rw [setView_view]
  split
  · exact hv
  · exact h q

theorem deltasOk_reset : State.reset.DeltasOk := by
  rw [deltasOk_iff]
  intro p a
  rw [reset_view]
  exact inLimits_resetAt 0 a

theorem deltasOk_block (h : BlockChange s t) (hs : s.DeltasOk) : t.DeltasOk := by
  cases h
  case contexts x _ hlimits => exact fun p a => hlimits p a (hs p a)
  case subscribe p a mask _ => exact hs.setView p (hs p)
  case purgeView p => exact hs.setView p (inLimits_resetAt s.tick)
  case openSession p k quota _ _ =>
    exact (hs.setView p (inLimits_resetAt s.tick)).congr rfl
  all_goals exact hs.congr (by simp [purgeTable, purgeLines, purgeNotes, purgeRights, handToTable, markPurge,
    closeSession])

theorem deltasOk_kept : KeptByChanges DeltasOk where
  queue _ _ h := h.congr rfl
  reset _ _ _ := deltasOk_reset.congr rfl
  block hchange h := deltasOk_block hchange h
  link hchange h := by
    obtain ⟨-, -, -, -, -, hviews, -⟩ := hchange.sameBlocks
    exact h.congr hviews

end State

/-- Settles O54: each kind of change keeps the axes (`State.axesOk_kept`) and the deltas (`State.deltasOk_kept`). -/
theorem stepKeepsAxes : Obligations.StepKeepsAxes := ⟨State.axesOk_kept.step, State.deltasOk_kept.step⟩

/-! ### Epochs -/

/-- A record handed on behind the others follows if it follows the epoch the axis stands at (R31). -/
theorem epochsFollow.append {a : Axis} {e m f : Half} {l : List AxisRecord} {x : AxisRecord}
    (h : epochsFollow a e l m) (hx : epochsFollow a m [x] f) : epochsFollow a e (l ++ [x]) f := by
  induction l generalizing e with
  | nil =>
    cases h
    exact hx
  | cons y l ih =>
    cases y with
    | arrival r =>
      obtain ⟨haxis, hepoch, hrest⟩ := h
      exact ⟨haxis, hepoch, ih hrest⟩
    | reference r =>
      obtain ⟨haxis, hepoch, hrest⟩ := h
      exact ⟨haxis, hepoch, ih hrest⟩

namespace State

variable {s t : State}

theorem EpochsOk.congr (h : s.EpochsOk) (hepoch : ∀ a, t.epochOf a = s.epochOf a) (hinbox : ∀ a, t.inbox a = s.inbox a)
    (haxis : ∀ a, (t.axis a).epoch = (s.axis a).epoch) : t.EpochsOk := fun a => by
  rw [hepoch, hinbox, haxis]
  exact h a

theorem epochsOk_reset : State.reset.EpochsOk := fun a => by simp [epochsFollow, AxisUnit.reset]

/-- The epochs follow on an axis once more, and the other axes are as they were. -/
theorem EpochsOk.of_axis (h : s.EpochsOk) (a : Axis) (ha : epochsFollow a (t.epochOf a) (t.inbox a) (t.axis a).epoch)
    (hother : ∀ b, b ≠ a → t.epochOf b = s.epochOf b ∧ t.inbox b = s.inbox b ∧ t.axis b = s.axis b) : t.EpochsOk := by
  intro b
  by_cases hb : b = a
  · exact hb ▸ ha
  · obtain ⟨hepoch, hinbox, haxis⟩ := hother b hb
    rw [hepoch, hinbox, haxis]
    exact h b

theorem epochsOk_block (h : BlockChange s t) (hs : s.EpochsOk) : t.EpochsOk := by
  cases h
  case axes x _ hepoch _ => exact hs.congr (fun _ => rfl) (fun _ => rfl) hepoch
  case reference a u r _ hepoch _ haxis hr =>
    refine hs.of_axis a ?_ fun b hb => ?_
    · simp only [handToTable, setInbox_epochOf, setInbox_inbox_self, setInbox_axis, setAxis_epochOf, setAxis_inbox,
        setAxis_axis_self]
      exact (hs a).append ⟨haxis, hr, hepoch.symm⟩
    · simp [handToTable, setInbox_inbox_ne _ _ _ hb, setAxis_axis_ne _ _ _ hb]
  case arrival a r haxis hr =>
    refine hs.of_axis a ?_ fun b hb => ?_
    · simp only [handToTable, setInbox_epochOf, setInbox_inbox_self, setInbox_axis]
      exact (hs a).append ⟨haxis, hr, rfl⟩
    · simp [handToTable, setInbox_inbox_ne _ _ _ hb]
  case arrivalTaken a r rest hin =>
    have hfollow := hs a
    rw [hin] at hfollow
    obtain ⟨-, -, hrest⟩ := hfollow
    refine hs.of_axis a (by simpa using hrest) fun b hb => ?_
    simp [setInbox_inbox_ne _ _ _ hb]
  case referenceTaken a r rest hin =>
    have hfollow := hs a
    rw [hin] at hfollow
    obtain ⟨haxis, hepoch, hrest⟩ := hfollow
    subst haxis
    rw [← hepoch] at hrest
    refine hs.of_axis r.axis (by simpa using hrest) fun b hb => ?_
    simp [setInbox_inbox_ne _ _ _ hb, setEpochOf_epochOf_ne _ _ _ hb]
  all_goals exact hs.congr (by simp [epochOf, purgeTable, purgeLines, purgeNotes, purgeView, purgeRights, markPurge,
      closeSession, openSession]) (by simp [inbox, purgeTable, purgeLines, purgeNotes, purgeView, purgeRights, markPurge,
      closeSession, openSession]) (by simp [axis, purgeTable, purgeLines, purgeNotes, purgeView, purgeRights, markPurge,
      closeSession, openSession])

theorem epochsOk_kept : KeptByChanges EpochsOk where
  queue _ _ h := h
  reset _ _ _ := epochsOk_reset.congr (fun _ => rfl) (fun _ => rfl) fun _ => rfl
  block hchange h := epochsOk_block hchange h
  link hchange h := by
    obtain ⟨-, ⟨haxes, -⟩, ⟨-, -, -, hepoch, hinbox⟩, -⟩ := hchange.sameBlocks
    exact h.congr (by simp [epochOf, hepoch]) (by simp [inbox, hinbox]) (by simp [axis, haxes])

end State

/-- Settles O59: each kind of change keeps the epochs in agreement (`State.epochsOk_kept`). -/
theorem stepKeepsEpochs : Obligations.StepKeepsEpochs := State.epochsOk_kept.step

end Sys2Proof.Machine

/-!
PROOF. The invariant of the port link units and the table arbiter (O57).
-/

namespace Sys2Proof.Machine

/-! ### Link units (R164) -/

namespace Link

variable {l : Link}

theorem Ok.accept (h : l.Ok) (req : Request) : (l.accept req).Ok :=
  ⟨by simp [Link.accept], by simp [Link.accept], by simp [Link.accept], by simp [Link.accept], h.transaction, h.frame⟩

/-- The stage of the command in flight shows in no other field. -/
theorem Ok.setFlight (h : l.Ok) (hflight : l.flight.isSome = true) (f : Flight) : Ok { l with flight := some f } :=
  { h with pending := by simpa [hflight] using h.pending }

theorem Ok.finish (h : l.Ok) (hflight : l.flight.isSome = true) (req : Request) (r : Result) (data : List Byte) :
    (l.finish req r data).Ok := by
  obtain ⟨hpending, -, -, hrequest, htransaction, hframe⟩ := h
  have hslot : l.slot = .pending := hpending.mpr hflight
  cases hd : l.discard with
  | true => simp only [Link.finish, hd, if_true]; exact ⟨by simp, by simp, by simp, by simp, htransaction, hframe⟩
  | false =>
    have hheld : l.heldRequest.isSome = true := hrequest.mpr ⟨by simp [hslot], hd⟩
    simp only [Link.finish, hd, Bool.false_eq_true, if_false]
    exact ⟨by simp, by simp, by simp, by simp [hheld], htransaction, hframe⟩

theorem Ok.drop (h : l.Ok) (hflight : l.flight.isSome = true) : l.drop.Ok := by
  have hslot : l.slot = .pending := h.pending.mpr hflight
  have hresponse : l.heldResponse = none := by simpa [hslot] using h.ready
  exact ⟨by simp [Link.drop], by simp [Link.drop, hresponse], by simp [Link.drop], by simp [Link.drop],
    h.transaction, h.frame⟩

theorem ok_resetKeepingSelect (l : Link) : l.resetKeepingSelect.Ok :=
  ⟨by simp [resetKeepingSelect, Link.reset], by simp [resetKeepingSelect, Link.reset], nofun,
    by simp [resetKeepingSelect, Link.reset], nofun, fun _ => rfl⟩

theorem flight_finish (l : Link) (req : Request) (r : Result) (data : List Byte) :
    (l.finish req r data).flight = none := by
  unfold finish
  split <;> rfl

end Link

namespace State

variable {s t : State}

theorem LinksOk.setLink (h : s.LinksOk) (p : Port) {l : Link} (hl : l.Ok) : (s.setLink p l).LinksOk := fun q => by
  rw [setLink_link]
  split
  · exact hl
  · exact h q

theorem LinksOk.congr (h : s.LinksOk) (hlinks : t.links = s.links) : t.LinksOk := fun p => by
  rw [link, hlinks]
  exact h p

/-! ### Who is at the arbiter -/

theorem atArbiter_congr {p : Port} (h : (t.link p).flight = (s.link p).flight) : t.AtArbiter p ↔ s.AtArbiter p := by
  unfold AtArbiter
  rw [h]

theorem closing_congr {p : Port} (h : (t.link p).flight = (s.link p).flight) : t.Closing p ↔ s.Closing p := by
  unfold Closing
  rw [h]

theorem not_atArbiter_of_none {p : Port} (h : (s.link p).flight = none) : ¬s.AtArbiter p := fun ⟨_, _, hf, _⟩ => by
  simp [h] at hf

theorem not_closing_of_none {p : Port} (h : (s.link p).flight = none) : ¬s.Closing p := fun ⟨_, hf⟩ => by
  simp [h] at hf

theorem not_atArbiter_of_stage {p : Port} {req : Request} {stage : Stage} (h : (s.link p).flight = some ⟨req, stage⟩)
    (hstage : stage ≠ .started) : ¬s.AtArbiter p := fun ⟨_, _, hf, _⟩ => by
  cases h.symm.trans hf
  exact hstage rfl

theorem not_atArbiter_of_command {p : Port} {req : Request} {c : Cmd} {stage : Stage}
    (h : (s.link p).flight = some ⟨req, stage⟩) (hcommand : req.command = some c) (hc : c.atArbiter = false) :
    ¬s.AtArbiter p := fun ⟨_, c', hf, hcommand', hc'⟩ => by
  cases h.symm.trans hf
  cases hcommand.symm.trans hcommand'
  simp [hc] at hc'

theorem not_closing_of_stage {p : Port} {req : Request} {stage : Stage} (h : (s.link p).flight = some ⟨req, stage⟩)
    (hstage : stage ≠ .closing) : ¬s.Closing p := fun ⟨_, hf⟩ => by
  cases h.symm.trans hf
  exact hstage rfl

/-! ### The laws of the arbiter -/

/-- The arbiter laws but for one: ports may wait while the grant is free, until `arbitrate` has chosen. -/
structure Arbitrable (s : State) : Prop where
  links : s.LinksOk
  waits : ∀ p, s.waiting.get p = true → s.AtArbiter p ∧ s.grant ≠ some p
  holds : ∀ p, s.grant = some p → s.AtArbiter p ∨ s.Closing p
  served : ∀ p, s.AtArbiter p → s.waiting.get p = true ∨ s.grant = some p
  closing : ∀ p, s.Closing p → s.grant = some p

theorem mem_cycleAfter (p q : Port) : q ∈ cycleAfter p := by
  cases p <;> cases q <;> decide

/-- The choice of the arbiter restores the laws (R179). -/
theorem Arbitrable.arbitrate (h : s.Arbitrable) : s.arbitrate.ArbiterOk := by
  have hlinks : s.arbitrate.LinksOk := h.links.congr (arbitrate_links s)
  unfold State.arbitrate at hlinks ⊢
  cases hgrant : s.grant with
  | some p => exact ⟨h.links, by simp [hgrant], h.waits, h.holds, h.served, h.closing⟩
  | none =>
    have hnoClosing : ∀ q, ¬s.Closing q := fun q hq => by simpa [hgrant] using h.closing q hq
    rw [hgrant] at hlinks
    cases hfind : (cycleAfter s.lastServed).find? (fun p => s.waiting.get p) with
    | none =>
      refine ⟨h.links, fun _ q => ?_, h.waits, h.holds, h.served, h.closing⟩
      simpa using List.find?_eq_none.mp hfind q (mem_cycleAfter _ q)
    | some p =>
      rw [hfind] at hlinks
      have hwaits : s.waiting.get p = true := by simpa using List.find?_some hfind
      refine ⟨hlinks, nofun, fun q hq => ?_, fun q hq => ?_, fun q hq => ?_, fun q hq => absurd hq (hnoClosing q)⟩
      · simp only [PerPort.get_set] at hq
        split at hq
        · cases hq
        next hne => exact ⟨(h.waits q hq).1, fun heq => hne (Option.some.inj heq).symm⟩
      · cases hq
        exact .inl (h.waits p hwaits).1
      · simp only [PerPort.get_set]
        split
        next heq => exact .inr (congrArg some heq.symm)
        next => exact .inl ((h.served q hq).resolve_right (by simp [hgrant]))

/-- The laws see of a link unit only whether its port is at the arbiter or closing. -/
theorem ArbiterOk.congr (h : s.ArbiterOk) (hlinks : t.LinksOk) (hat : ∀ p, t.AtArbiter p ↔ s.AtArbiter p)
    (hclosing : ∀ p, t.Closing p ↔ s.Closing p) (hgrant : t.grant = s.grant) (hwaiting : t.waiting = s.waiting) :
    t.ArbiterOk := by
  refine ⟨hlinks, ?_, ?_, ?_, ?_, ?_⟩ <;> simp only [hat, hclosing, hgrant, hwaiting]
  exacts [h.free, h.waits, h.holds, h.served, h.closing]

/-- One link unit changed, with its port at the arbiter and closing as before. -/
theorem ArbiterOk.setLink (h : s.ArbiterOk) (p : Port) {l : Link} (hl : l.Ok)
    (hat : (s.setLink p l).AtArbiter p ↔ s.AtArbiter p) (hclosing : (s.setLink p l).Closing p ↔ s.Closing p) :
    (s.setLink p l).ArbiterOk := by
  have hother : ∀ q, q ≠ p → ((s.setLink p l).link q).flight = (s.link q).flight := fun q hq => by
    rw [setLink_link_ne _ _ _ hq]
  refine h.congr (h.links.setLink p hl) (fun q => ?_) (fun q => ?_) rfl rfl
  · by_cases hq : q = p
    · exact hq ▸ hat
    · exact atArbiter_congr (hother q hq)
  · by_cases hq : q = p
    · exact hq ▸ hclosing
    · exact closing_congr (hother q hq)

/-- The port's command is gone, and the grant it held with it: what stands before the arbiter's next choice (R177,
R179). -/
theorem ArbiterOk.release (h : s.ArbiterOk) {p : Port} (hgrant : s.grant = some p) (hlinks : t.LinksOk)
    (hgone : (t.link p).flight = none) (hother : ∀ q, q ≠ p → (t.link q).flight = (s.link q).flight)
    (hfree : t.grant = none) (hwaiting : t.waiting = s.waiting) : t.Arbitrable := by
  refine ⟨hlinks, fun q hq => ?_, by simp [hfree], fun q hq => ?_, fun q hq => ?_⟩
  · rw [hwaiting] at hq
    obtain ⟨hat, hne⟩ := h.waits q hq
    have hqp : q ≠ p := fun heq => hne (heq ▸ hgrant)
    exact ⟨(atArbiter_congr (hother q hqp)).mpr hat, by simp [hfree]⟩
  · have hqp : q ≠ p := fun heq => not_atArbiter_of_none hgone (heq ▸ hq)
    refine .inl ?_
    rw [hwaiting]
    refine (h.served q ((atArbiter_congr (hother q hqp)).mp hq)).resolve_right fun hq' => hqp ?_
    exact Option.some.inj (hq'.symm.trans hgrant)
  · have hqp : q ≠ p := fun heq => not_closing_of_none hgone (heq ▸ hq)
    have hq' := h.closing q ((closing_congr (hother q hqp)).mp hq)
    exact absurd (Option.some.inj (hq'.symm.trans hgrant)) hqp

theorem setLink_flight_ne (s : State) {p q : Port} (l : Link) (h : q ≠ p) :
    ((s.setLink p l).link q).flight = (s.link q).flight := by
  rw [setLink_link_ne _ _ _ h]

/-- A command on its way with its arbiter (R173, R179). -/
theorem ArbiterOk.start (h : s.ArbiterOk) {p : Port} {req : Request} {c : Cmd}
    (hflight : (s.link p).flight = some ⟨req, .held⟩) (hcommand : req.command = some c) :
    (s.startOnWay p req).ArbiterOk := by
  have hl : Link.Ok { s.link p with flight := some ⟨req, .started⟩ } := (h.links p).setFlight (by simp [hflight]) _
  have hstarted : ((s.setLink p { s.link p with flight := some ⟨req, .started⟩ }).link p).flight =
      some ⟨req, .started⟩ := by simp
  have hnotAt : ¬s.AtArbiter p := not_atArbiter_of_stage hflight nofun
  have hnotClosing : ¬s.Closing p := not_closing_of_stage hflight nofun
  have hnotClosing' := not_closing_of_stage hstarted nofun
  unfold startOnWay
  rw [hcommand]
  dsimp only
  split
  next hc =>
    have hnoGrant : s.grant ≠ some p := fun hgrant => (h.holds p hgrant).elim hnotAt hnotClosing
    have hlinks := h.links.setLink p hl
    refine Arbitrable.arbitrate ⟨hlinks, fun q hq => ?_, fun q hq => ?_, fun q hq => ?_, fun q hq => ?_⟩
    · by_cases hqp : q = p
      · subst hqp
        exact ⟨⟨req, c, hstarted, hcommand, hc⟩, hnoGrant⟩
      · simp only [PerPort.get_set, if_neg hqp] at hq
        obtain ⟨hat, hne⟩ := h.waits q hq
        exact ⟨(atArbiter_congr (setLink_flight_ne s _ hqp)).mpr hat, hne⟩
    · have hqp : q ≠ p := fun heq => hnoGrant (heq ▸ hq)
      exact (h.holds q hq).imp (atArbiter_congr (setLink_flight_ne s _ hqp)).mpr
        (closing_congr (setLink_flight_ne s _ hqp)).mpr
    · by_cases hqp : q = p
      · exact .inl (by simp [hqp])
      · simp only [PerPort.get_set, if_neg hqp]
        exact h.served q ((atArbiter_congr (setLink_flight_ne s _ hqp)).mp hq)
    · have hqp : q ≠ p := fun heq => hnotClosing' (heq ▸ hq)
      exact h.closing q ((closing_congr (setLink_flight_ne s _ hqp)).mp hq)
  next hc =>
    have hnotAt' := not_atArbiter_of_command hstarted hcommand (Bool.not_eq_true _ ▸ hc)
    exact h.setLink p hl (iff_of_false hnotAt' hnotAt) (iff_of_false hnotClosing' hnotClosing)

/-- The last step of a command, and the arbiter's next choice (R175, R179). -/
theorem ArbiterOk.complete (h : s.ArbiterOk) {p : Port} (req : Request) (r : Result) (data : List Byte)
    (hflight : (s.link p).flight.isSome = true) (hgrant : s.AtArbiter p → s.grant = some p) :
    (s.complete p req r data).ArbiterOk := by
  have hl := (h.links p).finish hflight req r data
  have hgone : ((s.setLink p ((s.link p).finish req r data)).link p).flight = none := by
    rw [setLink_link_self, Link.flight_finish]
  unfold State.complete freeGrant
  split
  next hheld =>
    exact (h.release (t := { s.setLink p ((s.link p).finish req r data) with grant := none, lastServed := p }) hheld
      (h.links.setLink p hl) hgone (fun q => setLink_flight_ne s _) rfl rfl).arbitrate
  next hnot =>
    have hnotAt : ¬s.AtArbiter p := fun hat => hnot (hgrant hat)
    have hnotClosing : ¬s.Closing p := fun hclosing => hnot (h.closing p hclosing)
    exact h.setLink p hl (iff_of_false (not_atArbiter_of_none hgone) hnotAt)
      (iff_of_false (not_closing_of_none hgone) hnotClosing)

/-- A command dropped: it leaves the waiting set or frees the grant (R177). -/
theorem ArbiterOk.dropCommand (h : s.ArbiterOk) {p : Port} (hflight : (s.link p).flight.isSome = true)
    (hrunning : s.running p = false) : ((s.setLink p (s.link p).drop).leaveArbiter p).ArbiterOk := by
  have hl := (h.links p).drop hflight
  have hgone : ((s.setLink p (s.link p).drop).link p).flight = none := by simp [Link.drop]
  have hnotClosing : ¬s.Closing p := fun ⟨_, hf⟩ => by simp [running, hf] at hrunning
  unfold leaveArbiter
  split
  next hheld =>
    exact (h.release (t := { s.setLink p (s.link p).drop with grant := none }) hheld (h.links.setLink p hl) hgone (fun q => setLink_flight_ne s _) rfl rfl).arbitrate
  next hnot =>
    have hlinks := h.links.setLink p hl
    refine ⟨hlinks, fun hfree q => ?_, fun q hq => ?_, fun q hq => ?_, fun q hq => ?_, fun q hq => ?_⟩
    · simp only [PerPort.get_set]
      split
      · rfl
      · exact h.free hfree q
    · simp only [PerPort.get_set] at hq
      split at hq
      · cases hq
      next hqp =>
        obtain ⟨hat, hne⟩ := h.waits q hq
        exact ⟨(atArbiter_congr (setLink_flight_ne s _ hqp)).mpr hat, hne⟩
    · have hqp : q ≠ p := fun heq => hnot (heq ▸ hq)
      exact (h.holds q hq).imp (atArbiter_congr (setLink_flight_ne s _ hqp)).mpr
        (closing_congr (setLink_flight_ne s _ hqp)).mpr
    · have hqp : q ≠ p := fun heq => not_atArbiter_of_none hgone (heq ▸ hq)
      simp only [PerPort.get_set, if_neg hqp]
      exact h.served q ((atArbiter_congr (setLink_flight_ne s _ hqp)).mp hq)
    · have hqp : q ≠ p := fun heq => not_closing_of_none hgone (heq ▸ hq)
      exact h.closing q ((closing_congr (setLink_flight_ne s _ hqp)).mp hq)

/-- A CLOSE under the grant goes over to its purge and keeps the grant (R152, R180). -/
theorem ArbiterOk.toClosing (h : s.ArbiterOk) {p : Port} {req : Request}
    (hflight : (s.link p).flight = some ⟨req, .started⟩) (hgrant : s.grant = some p) :
    (s.setLink p { s.link p with flight := some ⟨req, .closing⟩ }).ArbiterOk := by
  have hnow : ((s.setLink p { s.link p with flight := some ⟨req, .closing⟩ }).link p).flight =
      some ⟨req, .closing⟩ := by simp
  have hl := (h.links p).setFlight (by simp [hflight]) ⟨req, .closing⟩
  refine ⟨h.links.setLink p hl, h.free, fun q hq => ?_, fun q hq => ?_, fun q hq => ?_, fun q hq => ?_⟩
  · obtain ⟨hat, hne⟩ := h.waits q hq
    have hqp : q ≠ p := fun heq => hne (heq ▸ hgrant)
    exact ⟨(atArbiter_congr (setLink_flight_ne s _ hqp)).mpr hat, hne⟩
  · obtain rfl : p = q := Option.some.inj (hgrant.symm.trans hq)
    exact .inr ⟨req, hnow⟩
  · have hqp : q ≠ p := fun heq => not_atArbiter_of_stage hnow nofun (heq ▸ hq)
    exact h.served q ((atArbiter_congr (setLink_flight_ne s _ hqp)).mp hq)
  · by_cases hqp : q = p
    · exact hqp ▸ hgrant
    · exact h.closing q ((closing_congr (setLink_flight_ne s _ hqp)).mp hq)

theorem arbiterOk_link (h : LinkChange s t) (hs : s.ArbiterOk) : t.ArbiterOk := by
  cases h
  case link p l hok hflight =>
    have hsame : ((s.setLink p l).link p).flight = (s.link p).flight := by rw [setLink_link_self, hflight]
    exact hs.setLink p (hok (hs.links p)) (atArbiter_congr hsame) (closing_congr hsame)
  case accept p req hslot =>
    have hnone : (s.link p).flight = none := by simpa [hslot] using (hs.links p).pending
    have hheld : ((s.setLink p ((s.link p).accept req)).link p).flight = some ⟨req, .held⟩ := by simp [Link.accept]
    exact hs.setLink p ((hs.links p).accept req)
      (iff_of_false (not_atArbiter_of_stage hheld nofun) (not_atArbiter_of_none hnone))
      (iff_of_false (not_closing_of_stage hheld nofun) (not_closing_of_none hnone))
  case start p req c hflight hcommand _ => exact hs.start hflight hcommand
  case complete p req r data hflight hgrant => exact hs.complete req r data hflight hgrant
  case snapping p req run stage hflight hstage =>
    have hnow : ((s.setLink p { s.link p with flight := some ⟨req, .snapping run⟩ }).link p).flight =
        some ⟨req, .snapping run⟩ := by simp
    have hbefore : ¬s.AtArbiter p ∧ ¬s.Closing p := by
      obtain ⟨rfl, hcommand⟩ | ⟨before, rfl⟩ := hstage
      · exact ⟨not_atArbiter_of_command hflight hcommand rfl, not_closing_of_stage hflight nofun⟩
      · exact ⟨not_atArbiter_of_stage hflight nofun, not_closing_of_stage hflight nofun⟩
    obtain ⟨hnotAt, hnotClosing⟩ := hbefore
    exact hs.setLink p ((hs.links p).setFlight (by simp [hflight]) _)
      (iff_of_false (not_atArbiter_of_stage hnow nofun) hnotAt)
      (iff_of_false (not_closing_of_stage hnow nofun) hnotClosing)
  case closing p req hflight hgrant => exact hs.toClosing hflight hgrant
  case drop p hflight hrunning => exact hs.dropCommand hflight hrunning

theorem arbiterOk_block (h : BlockChange s t) (hs : s.ArbiterOk) : t.ArbiterOk := by
  obtain ⟨-, -, hlinks, hgrant, hwaiting⟩ := h.outside
  have hflight : ∀ p, (t.link p).flight = (s.link p).flight := fun p => by rw [link, link, hlinks]
  exact hs.congr (hs.links.congr hlinks) (fun p => atArbiter_congr (hflight p)) (fun p => closing_congr (hflight p))
    hgrant hwaiting

theorem arbiterOk_of_idle (hlinks : s.LinksOk) (hflight : ∀ p, (s.link p).flight = none) (hgrant : s.grant = none)
    (hwaiting : ∀ p, s.waiting.get p = false) : s.ArbiterOk :=
  ⟨hlinks, fun _ => hwaiting, by simp [hwaiting], by simp [hgrant],
    fun p hp => absurd hp (not_atArbiter_of_none (hflight p)), fun p hp => absurd hp (not_closing_of_none (hflight p))⟩

theorem arbiterOk_reset : State.reset.ArbiterOk :=
  arbiterOk_of_idle (fun p => by rw [reset_link]; exact Link.ok_resetKeepingSelect .reset) (fun p => by simp [Link.reset]) rfl
    (fun p => PerPort.get_all false p)

theorem arbiterOk_underReset (s : State) (source : ResetSource) : (s.underReset source).ArbiterOk :=
  arbiterOk_of_idle (fun p => by rw [underReset_link]; exact Link.ok_resetKeepingSelect _)
    (fun p => by rw [underReset_link]; rfl) rfl (fun p => PerPort.get_all false p)

theorem arbiterOk_kept : KeptByChanges ArbiterOk where
  queue _ _ h := h.congr h.links (fun _ => Iff.rfl) (fun _ => Iff.rfl) rfl rfl
  reset s source _ := s.arbiterOk_underReset source
  block := arbiterOk_block
  link := arbiterOk_link

end State

/-- Settles O57: a change of the blocks leaves links and arbiter alone, and each change of a link unit keeps their laws
(`State.arbiterOk_link`). -/
theorem stepKeepsLinksAndArbiter : Obligations.StepKeepsLinksAndArbiter := State.arbiterOk_kept.step

end Sys2Proof.Machine

/-!
PROOF. The invariant of ownership (O58).
-/

namespace Sys2Proof.Machine

/-! ### A slot through a change of the blocks -/

/-- A slot's record `v` is what a change has left of the record `u`: description and owner stay, and a RETIRING slot
stays RETIRING (R39 to R43). -/
structure Trigger.Follows (v u : Trigger) : Prop where
  owner : v.owner = u.owner
  job : v.job = u.job
  retiring : u.state = .retiring → v.state = .retiring
  agrees : u.Agrees → v.Agrees

namespace Trigger

variable {t : Trigger}

theorem follows_refl (t : Trigger) : t.Follows t := ⟨rfl, rfl, id, id⟩

/-- The state and the target alone are changed. -/
theorem follows_setState {st : SlotState} (h : t.state = .retiring → st = .retiring) (target : Word) :
    Follows { t with state := st, target := target } t := ⟨rfl, rfl, h, id⟩

theorem armedAtOrigin_follows (h : t.state = .staged) : t.armedAtOrigin.Follows t := by
  refine ⟨rfl, rfl, fun hretiring => by simp [h] at hretiring, fun ⟨hpulse, hrep⟩ => ⟨hpulse, fun r hr => ?_⟩⟩
  obtain ⟨r', hr', rfl⟩ := Option.map_eq_some_iff.mp hr
  obtain ⟨htotal, -, hpitch⟩ := hrep r' hr'
  exact ⟨htotal, Nat.le_refl _, hpitch⟩

/-- What the count of fires leaves of a repeat: pitch and total, and no more fires left than before (R72). -/
theorem countFire_rep (t : Trigger) : match t.countFire with
    | .repeats pitch r => ∃ r', t.rep = some r' ∧ pitch = r'.pitch ∧ r.pitch = r'.pitch ∧ r.firesTotal = r'.firesTotal ∧
        r.firesLeft ≤ r'.firesLeft
    | .finishes rep => ∀ r, rep = some r → ∃ r', t.rep = some r' ∧ r.pitch = r'.pitch ∧ r.firesTotal = r'.firesTotal ∧
        r.firesLeft ≤ r'.firesLeft := by
  unfold countFire
  cases hrep : t.rep with
  | none => exact nofun
  | some r =>
    dsimp only
    by_cases htotal : r.firesTotal = 0
    · rw [if_pos htotal]
      exact ⟨r, rfl, rfl, rfl, rfl, Nat.le_refl _⟩
    · rw [if_neg htotal]
      by_cases hleft : r.firesLeft ≤ 1
      · rw [if_pos hleft]
        intro r' hr'
        cases hr'
        exact ⟨r, rfl, rfl, rfl, Nat.zero_le _⟩
      · rw [if_neg hleft]
        exact ⟨r, rfl, rfl, rfl, rfl, Nat.sub_le _ _⟩

/-- A repeat with the pitch, the total and no more fires left than before agrees as before (R40). -/
theorem Agrees.setRep (h : t.Agrees) {v : Trigger} (hjob : v.job = t.job) (hdir : v.dir = t.dir)
    (hrep : ∀ r, v.rep = some r → ∃ r', t.rep = some r' ∧ r.pitch = r'.pitch ∧ r.firesTotal = r'.firesTotal ∧
      r.firesLeft ≤ r'.firesLeft) : v.Agrees := by
  obtain ⟨hpulse, hrepeat⟩ := h
  refine ⟨hjob ▸ hpulse, fun r hr => ?_⟩
  obtain ⟨r', hr', hpitch, htotal, hleft⟩ := hrep r hr
  obtain ⟨hmax, hle, hsign⟩ := hrepeat r' hr'
  rw [hpitch, htotal, hdir]
  exact ⟨hmax, hleft.trans hle, hsign⟩

end Trigger

namespace State

variable {s t : State}

/-- Step 3 of a fire leaves the slot's description (R72 to R74). -/
theorem fireOwn_slot_follows {n : SlotNo} {u v : Trigger} (harmed : u.state = .armed)
    (hv : (s.fireOwn n u).slot n = some v) : v.Follows u := by
  have hcount := u.countFire_rep
  rw [fireOwn_slot, if_pos rfl, Option.some.injEq] at hv
  have hnot : u.state ≠ .retiring := by simp [harmed]
  cases hc : u.countFire with
  | repeats pitch rep =>
    rw [hc] at hv hcount
    obtain ⟨r', hr', -, hrest⟩ := hcount
    subst hv
    refine ⟨rfl, rfl, fun h => absurd h hnot, fun h => h.setRep rfl rfl fun r hr => ?_⟩
    cases hr
    exact ⟨r', hr', hrest⟩
  | finishes rep =>
    rw [hc] at hv hcount
    subst hv
    exact ⟨rfl, rfl, fun h => absurd h hnot, fun h => h.setRep rfl rfl hcount⟩

/-- The slots a change leaves in use: each follows its record from before, but for one that is defined. -/
theorem slot_block (h : BlockChange s t) {m : SlotNo} {v : Trigger} (hv : t.slot m = some v) :
    (∃ u, s.slot m = some u ∧ v.Follows u) ∨
      (s.Working v.owner ∧ t.lineClaimed v = true ∧ v.state = .staged ∧ v.Agrees) := by
  cases h
  case define p n u hp _ hstate howner _ hagrees hline _ =>
    rw [setHeld_slot, setSlot_slot] at hv
    split at hv
    · cases hv
      exact .inr ⟨howner ▸ hp, hline, hstate, hagrees⟩
    · exact .inl ⟨v, hv, v.follows_refl⟩
  case arm n u hslot hstate _ =>
    rw [arm_slot] at hv
    split at hv
    next hm =>
      cases hv
      exact .inl ⟨u, hm ▸ hslot, Trigger.armedAtOrigin_follows hstate⟩
    next => exact .inl ⟨v, hv, v.follows_refl⟩
  case unarm n u st hslot hstate _ =>
    rw [unarm_slot] at hv
    split at hv
    next hm =>
      cases hv
      exact .inl ⟨u, hm ▸ hslot, Trigger.follows_setState (fun h => absurd h hstate) _⟩
    next => exact .inl ⟨v, hv, v.follows_refl⟩
  case fireOwn n u hslot harmed =>
    by_cases hm : m = n
    · subst hm
      exact .inl ⟨u, hslot, fireOwn_slot_follows harmed hv⟩
    · rw [fireOwn_slot, if_neg hm] at hv
      exact .inl ⟨v, hv, v.follows_refl⟩
  case free n u hslot _ =>
    rw [freeSlot, setHeld_slot, setSlot_slot] at hv
    split at hv
    · cases hv
    · exact .inl ⟨v, hv, v.follows_refl⟩
  case retire n u hslot _ =>
    rw [setSlot_slot] at hv
    split at hv
    next hm =>
      cases hv
      exact .inl ⟨u, hm ▸ hslot, Trigger.follows_setState (fun _ => rfl) _⟩
    next => exact .inl ⟨v, hv, v.follows_refl⟩
  case purgeTable p =>
    rw [purgeTable_slot, Option.bind_eq_some_iff] at hv
    obtain ⟨u, hu, hkept⟩ := hv
    split at hkept
    · cases hkept
    · cases hkept
      exact .inl ⟨v, hu, v.follows_refl⟩
  all_goals
    refine .inl ⟨v, ?_, v.follows_refl⟩
    simpa [slot, purgeLines, purgeNotes, purgeView, purgeRights, handToTable, markPurge, closeSession, openSession]
      using hv

theorem ownsSlot_iff {p : Port} {n : SlotNo} : s.ownsSlot p n = true ↔ ∃ u, s.slot n = some u ∧ u.owner = p := by
  unfold ownsSlot
  cases s.slot n <;> simp

/-! ### What a port without a running command can only lose -/

/-- Port `p` owns nothing it did not own before. -/
structure NoGain (p : Port) (s t : State) : Prop where
  slots : ∀ n, s.ownsSlot p n = false → t.ownsSlot p n = false
  lines : ∀ l, (s.line l).owner ≠ some p → (t.line l).owner ≠ some p
  rights : ∀ a, s.axisRight a ≠ some p → t.axisRight a ≠ some p
  masks : ∀ a : Axis, (s.view p).masks[a] = 0 → (t.view p).masks[a] = 0

theorem GivenBack.mono {p : Port} {g : Purge} (h : s.GivenBack p g) (hless : NoGain p s t) : t.GivenBack p g :=
  ⟨fun hg n => hless.slots n (h.slots hg n), fun hg l => hless.lines l (h.lines hg l),
    fun hg a => hless.rights a (h.rights hg a), fun hg a => hless.masks a (h.masks hg a)⟩

/-- The owner of a line through a change: the same, none, or a port whose command claims it. -/
theorem lineOwner_block (h : BlockChange s t) (l : LineNo) :
    (t.line l).owner = (s.line l).owner ∨ (t.line l).owner = none ∨
      ∃ p, (t.line l).owner = some p ∧ s.Working p := by
  cases h
  case lines x howner _ => exact .inl (howner l)
  case fireLine n u _ _ =>
    rw [fireLine_line]
    split
    · split <;> simp
    · exact .inl rfl
  case claimLine p m polarity release hp _ =>
    rw [setLine_line]
    split
    · exact .inr (.inr ⟨p, rfl, hp⟩)
    · exact .inl rfl
  case releaseLine p m _ _ =>
    rw [setLine_line]
    split
    · exact .inr (.inl rfl)
    · exact .inl rfl
  case purgeLines p g _ _ =>
    rw [purgeLines_line]
    split
    · exact .inr (.inl rfl)
    · exact .inl rfl
  all_goals
    refine .inl ?_
    simp [line, purgeTable, purgeNotes, purgeView, purgeRights, handToTable, markPurge, closeSession, openSession]

theorem right_block (h : BlockChange s t) (a : Axis) :
    t.axisRight a = s.axisRight a ∨ t.axisRight a = none ∨ ∃ p, t.axisRight a = some p ∧ s.Working p := by
  cases h
  case right b o ho =>
    rw [setAxisRight_axisRight]
    split
    · cases o with
      | none => exact .inr (.inl rfl)
      | some p => exact .inr (.inr ⟨p, rfl, ho p rfl⟩)
    · exact .inl rfl
  case purgeRights p =>
    rw [purgeRights_axisRight]
    split
    · exact .inr (.inl rfl)
    · exact .inl rfl
  all_goals
    refine .inl ?_
    simp [axisRight, purgeTable, purgeNotes, purgeView, purgeLines, handToTable, markPurge, closeSession, openSession]

theorem masks_block (h : BlockChange s t) (p : Port) :
    (t.view p).masks = (s.view p).masks ∨ (∀ a : Axis, (t.view p).masks[a] = 0) ∨ s.Working p := by
  have hreset : ∀ a : Axis, (View.resetAt s.tick).masks[a] = 0 := fun a => (View.resetAt_get s.tick a).2
  cases h
  case contexts x hmasks _ => exact .inl (hmasks p)
  case subscribe q a mask hq =>
    rw [setView_view]
    split
    next h => exact .inr (.inr (h ▸ hq))
    next => exact .inl rfl
  case purgeView q =>
    rw [purgeView, setView_view]
    split
    · exact .inr (.inl hreset)
    · exact .inl rfl
  case openSession q k quota _ _ =>
    rw [openSession, setView_view]
    split
    · exact .inr (.inl hreset)
    · exact .inl rfl
  all_goals
    refine .inl ?_
    simp [view, purgeTable, purgeNotes, purgeRights, purgeLines, handToTable, markPurge, closeSession]

theorem noGain_block (h : BlockChange s t) {p : Port} (hp : ¬s.Working p) : NoGain p s t where
  slots n hn := by
    rw [← Bool.not_eq_true, ownsSlot_iff] at hn ⊢
    rintro ⟨v, hv, howner⟩
    obtain ⟨u, hu, hfollows⟩ | ⟨hworking, -⟩ := slot_block h hv
    · exact hn ⟨u, hu, hfollows.owner ▸ howner⟩
    · exact hp (howner ▸ hworking)
  lines l hl := by
    obtain hsame | hnone | ⟨q, hq, hworking⟩ := lineOwner_block h l
    · rwa [hsame]
    · simp [hnone]
    · rw [hq]
      exact fun heq => hp (Option.some.inj heq ▸ hworking)
  rights a ha := by
    obtain hsame | hnone | ⟨q, hq, hworking⟩ := right_block h a
    · rwa [hsame]
    · simp [hnone]
    · rw [hq]
      exact fun heq => hp (Option.some.inj heq ▸ hworking)
  masks a ha := by
    obtain hsame | hzero | hworking := masks_block h p
    · rwa [hsame]
    · exact hzero a
    · exact absurd hworking hp

/-! ### The laws of ownership through a change of the blocks -/

/-- Everything of a port is given back once all five blocks have taken their step. -/
theorem GivenBack.of_all {p : Port} {g : Purge} (h : s.GivenBack p g) (hall : g.allDone = true) :
    s.GivenBack p ⟨false, true, true, true, true, true⟩ := by
  simp only [Purge.allDone, Bool.and_eq_true] at hall
  obtain ⟨⟨⟨⟨htable, hlines⟩, -⟩, hview⟩, hrights⟩ := hall
  exact ⟨fun _ => h.slots htable, fun _ => h.lines hlines, fun _ => h.rights hrights, fun _ => h.masks hview⟩

/-- A purge that has just begun has asked nothing back yet. -/
theorem givenBack_start (s : State) (p : Port) (byExpiry : Bool) :
    s.GivenBack p ⟨byExpiry, false, false, false, false, false⟩ := ⟨nofun, nofun, nofun, nofun⟩

/-- What a port owes by its session record: nothing held while CLOSED, nothing held in a block whose purge step is
done (R145, R157). -/
structure Settled (s : State) (p : Port) (r : Session) : Prop where
  closed : r.state = .closed → s.GivenBack p ⟨false, true, true, true, true, true⟩
  ending : ∀ g, r.purge = some g → s.GivenBack p g
  after : ∀ g, r.purge = some g → g.lines = true → g.table = true

theorem OwnershipOk.settled (h : s.OwnershipOk) (p : Port) : s.Settled p (s.session p) :=
  ⟨h.closed p, h.ending p, h.after p⟩

theorem Settled.mono {p : Port} {r : Session} (h : s.Settled p r) (hless : NoGain p s t) : t.Settled p r :=
  ⟨fun hr => (h.closed hr).mono hless, fun g hg => (h.ending g hg).mono hless, h.after⟩

/-- A port whose command runs its step is neither CLOSED nor ending (R173). -/
theorem OwnershipOk.settled_of_working (h : s.OwnershipOk) {p : Port} (hp : s.Working p) : t.Settled p (s.session p) := by
  obtain ⟨hopened, req, hflight⟩ := hp
  have hnone : (s.session p).purge = none := by
    cases hg : (s.session p).purge with
    | none => rfl
    | some g => simpa using h.held p (by simp [State.ending, hg]) _ hflight
  exact ⟨fun hclosed => by simp [hopened] at hclosed, fun g hg => by simp [hnone] at hg, fun g hg => by simp [hnone] at hg⟩

/-- A change keeps what a port owes by the session record it had. -/
theorem OwnershipOk.settled_block (hs : s.OwnershipOk) (h : BlockChange s t) (p : Port) : t.Settled p (s.session p) := by
  by_cases hp : s.Working p
  · exact hs.settled_of_working hp
  · exact (hs.settled p).mono (noGain_block h hp)

theorem settled_congr {p : Port} {r r' : Session} (h : s.Settled p r) (hstate : r'.state = r.state)
    (hpurge : r'.purge = r.purge) : s.Settled p r' := by
  refine ⟨?_, ?_, ?_⟩
  · rw [hstate]
    exact h.closed
  · rw [hpurge]
    exact h.ending
  · rw [hpurge]
    exact h.after

/-- A change keeps what every port owes by its session record. -/
theorem OwnershipOk.settledNext (hs : s.OwnershipOk) (h : BlockChange s t) (p : Port) : t.Settled p (t.session p) := by
  have hkept := hs.settled_block h p
  have hnone : (s.session p).state = .closed → (s.session p).purge = none := fun hc => ((hs.sessions p).closed hc).1
  cases h
  case mark q g g' hg hgiven hafter _ =>
    rw [markPurge_session]
    split
    next hpq =>
      subst hpq
      have hopened := (hs.sessions p).opened_of_purge hg
      refine ⟨fun hclosed => ?_, fun g'' hg'' => ?_, fun g'' hg'' => ?_⟩
      · simp [hopened] at hclosed
      · cases hg''
        have hback := hgiven (hs.ending p g hg)
        exact ⟨hback.slots, hback.lines, hback.rights, hback.masks⟩
      · cases hg''
        exact hafter (hs.after p g hg)
    next => exact hkept
  case timers x hsame _ =>
    refine settled_congr hkept ?_ ?_
    · change (x.get p).state = _
      rw [hsame]
    · change (x.get p).purge = _
      rw [hsame]
  case beginPurge q byExpiry hopen _ =>
    rw [setSession_session]
    split
    next hpq =>
      subst hpq
      refine ⟨fun hclosed => ?_, fun g hg => ?_, fun g hg => ?_⟩
      · simp [Session.beginPurge, (hs.sessions p).opened_of_due hopen] at hclosed
      · cases hg
        exact givenBack_start _ p byExpiry
      · cases hg
        exact nofun
    next => exact hkept
  case closeSession q g hg hall =>
    rw [closeSession_session]
    split
    next hpq =>
      subst hpq
      exact ⟨fun _ => (hkept.ending g hg).of_all hall, nofun, nofun⟩
    next => exact hkept
  case openSession q k quota hclosed _ =>
    rw [openSession_session]
    split
    next hpq =>
      subst hpq
      have hpurge : ((s.session p).opened k quota).purge = none := hnone hclosed
      exact ⟨nofun, fun g hg => by simp [hpurge] at hg, fun g hg => by simp [hpurge] at hg⟩
    next => exact hkept
  all_goals
    refine settled_congr hkept ?_ ?_ <;>
      simp [session, purgeTable, purgeLines, purgeNotes, purgeView, purgeRights, handToTable]

/-- A line without an owner stays INACTIVE and without a pulse (R92, R94). -/
theorem OwnershipOk.unownedNext (hs : s.OwnershipOk) (h : BlockChange s t) (l : LineNo) :
    (t.line l).owner = none → (t.line l).Idle := by
  have hbefore : (s.line l).owner = none → (s.line l).Idle := hs.unowned l
  cases h
  case lines x howner hidle =>
    intro hl
    have hnone : (s.line l).owner = none := (howner l).symm.trans hl
    exact hidle l hnone (hbefore hnone)
  case fireLine n u hslot harmed =>
    rw [fireLine_line]
    cases hjob : u.job with
    | none => exact hbefore
    | some j =>
      dsimp only
      split
      next hlj =>
        have howner := hs.named n u j hslot (by simp [harmed]) hjob
        simp [hlj, howner]
      next => exact hbefore
  case claimLine p m polarity release _ _ =>
    rw [setLine_line]
    split
    · exact nofun
    · exact hbefore
  case releaseLine p m _ _ =>
    rw [setLine_line]
    split
    · exact fun _ => ⟨rfl, rfl⟩
    · exact hbefore
  case purgeLines p g _ _ =>
    rw [purgeLines_line]
    split
    · exact fun _ => ⟨rfl, rfl⟩
    · exact hbefore
  all_goals
    simpa [line, purgeTable, purgeNotes, purgeView, purgeRights, handToTable, markPurge, closeSession, openSession]
      using hbefore

/-- A line a slot may act on keeps its owner while the slot may act on it. -/
theorem OwnershipOk.namedLine (hs : s.OwnershipOk) (h : BlockChange s t) {n : SlotNo} {u : Trigger} {j : LineJob}
    (hslot : s.slot n = some u) (hstate : u.state ≠ .retiring) (hjob : u.job = some j) :
    (t.line j.line).owner = some u.owner := by
  have hbefore := hs.named n u j hslot hstate hjob
  cases h
  case lines x howner _ => exact (howner j.line).trans hbefore
  case fireLine m v _ _ =>
    rw [fireLine_line]
    cases v.job with
    | none => exact hbefore
    | some k =>
      dsimp only
      split
      · simpa using hbefore
      · exact hbefore
  case claimLine p m polarity release _ hfree =>
    rw [setLine_line]
    split
    next hm => simp [← hm, hbefore] at hfree
    next => exact hbefore
  case releaseLine p m howner hfree =>
    rw [setLine_line]
    split
    next hm =>
      refine absurd ?_ (hfree n)
      have hp : u.owner = p := Option.some.inj (hbefore.symm.trans (hm ▸ howner))
      simp [slotNames, hslot, hp, hstate, hjob, hm]
    next => exact hbefore
  case purgeLines p g hg htable =>
    rw [purgeLines_line]
    split
    next howner =>
      have hp : u.owner = p := Option.some.inj (hbefore.symm.trans howner)
      have hnone := (hs.ending p g hg).slots htable n
      simp [ownsSlot, hslot, hp] at hnone
    next => exact hbefore
  all_goals
    simpa [line, purgeTable, purgeNotes, purgeView, purgeRights, handToTable, markPurge, closeSession, openSession]
      using hbefore

/-- The stage of the command of an ending port, through a change of the blocks: none takes its step (R173). -/
theorem OwnershipOk.heldNext (hs : s.OwnershipOk) (h : BlockChange s t) (p : Port) (hp : t.ending p = true) (f : Flight)
    (hf : (t.link p).flight = some f) : f.stage = .held ∨ f.stage = .closing := by
  have hlink : t.link p = s.link p := by rw [link, link, h.outside.links]
  rw [hlink] at hf
  have hbefore : s.ending p = true → f.stage = .held ∨ f.stage = .closing := fun hend => hs.held p hend f hf
  revert hp
  cases h
  case mark q g g' hg _ _ _ =>
    intro hp
    refine hbefore ?_
    by_cases hpq : p = q
    · subst hpq
      simp [State.ending, hg]
    · simpa [State.ending, markPurge_session, hpq] using hp
  case timers x hsame _ =>
    intro hp
    refine hbefore ?_
    change (x.get p).purge.isSome = true at hp
    rwa [hsame] at hp
  case beginPurge q byExpiry _ hflight =>
    intro hp
    by_cases hpq : p = q
    · subst hpq
      exact hflight f hf
    · exact hbefore (by simpa [State.ending, setSession_session, hpq] using hp)
  case closeSession q g _ _ =>
    intro hp
    by_cases hpq : p = q
    · simp [State.ending, closeSession_session, hpq, Session.close] at hp
    · exact hbefore (by simpa [State.ending, closeSession_session, hpq] using hp)
  case openSession q k quota hclosed _ =>
    intro hp
    by_cases hpq : p = q
    · subst hpq
      have hnone := ((hs.sessions p).closed hclosed).1
      simp [State.ending, Session.opened, hnone] at hp
    · exact hbefore (by simpa [State.ending, openSession_session, hpq] using hp)
  all_goals
    simpa [State.ending, session, purgeTable, purgeLines, purgeNotes, purgeView, purgeRights, handToTable]
      using hbefore

theorem lineClaimed_iff {u : Trigger} :
    s.lineClaimed u = true ↔ ∀ j, u.job = some j → (s.line j.line).owner = some u.owner := by
  unfold lineClaimed
  cases u.job <;> simp

theorem ownershipOk_block (h : BlockChange s t) (hs : s.OwnershipOk) : t.OwnershipOk where
  sessions := sessionsEach_block h hs.sessions
  unowned := hs.unownedNext h
  named n v j hv hstate hjob := by
    obtain ⟨u, hu, hfollows⟩ | ⟨hworking, hline, -⟩ := slot_block h hv
    · rw [hfollows.owner]
      exact hs.namedLine h hu (fun hr => hstate (hfollows.retiring hr)) (hfollows.job ▸ hjob)
    · exact lineClaimed_iff.mp hline j hjob
  closed p := (hs.settledNext h p).closed
  ending p := (hs.settledNext h p).ending
  after p := (hs.settledNext h p).after
  held p := hs.heldNext h p

/-- The laws see of the part its sessions, slots, lines, rights and masks, and the commands in flight. -/
theorem OwnershipOk.congr (h : s.OwnershipOk) (hblocks : SameBlocks s t)
    (hheld : ∀ p, s.ending p = true → ∀ f, (t.link p).flight = some f → f.stage = .held ∨ f.stage = .closing) :
    t.OwnershipOk := by
  obtain ⟨-, -, ⟨hslots, -⟩, hlines, -, hviews, ⟨hsessions, -⟩, hrights⟩ := hblocks
  have hsession : ∀ p, t.session p = s.session p := fun p => congrArg (·.get p) hsessions
  have hline : ∀ l, t.line l = s.line l := fun l => by rw [line, line, hlines]
  have hslot : ∀ n, t.slot n = s.slot n := fun n => by rw [slot, slot, hslots]
  have hright : ∀ a, t.axisRight a = s.axisRight a := fun a => by rw [axisRight, axisRight, hrights]
  have hview : ∀ p, t.view p = s.view p := fun p => congrArg (·.get p) hviews
  have hless : ∀ p, NoGain p s t := fun p => by
    refine ⟨fun n => ?_, fun l => ?_, fun a => ?_, fun a => ?_⟩
    · rw [ownsSlot, ownsSlot, hslot]
      exact id
    · rw [hline]
      exact id
    · rw [hright]
      exact id
    · rw [hview]
      exact id
  refine ⟨?_, ?_, ?_, ?_, ?_, ?_, ?_⟩ <;> simp only [hsession, hline, hslot, State.ending]
  · exact h.sessions
  · exact h.unowned
  · exact h.named
  · exact fun p hp => (h.closed p hp).mono (hless p)
  · exact fun p g hg => (h.ending p g hg).mono (hless p)
  · exact h.after
  · exact hheld

theorem startOnWay_link_ne (s : State) (req : Request) {p q : Port} (h : p ≠ q) :
    (s.startOnWay q req).link p = s.link p := by
  unfold startOnWay
  split
  · rw [State.complete, freeGrant_link, setLink_link_ne _ _ _ h]
  · dsimp only
    split
    · rw [joinArbiter_link, setLink_link_ne _ _ _ h]
    · rw [setLink_link_ne _ _ _ h]

/-- No change of a link unit lets a command of an ending port run (R173). -/
theorem heldAfterLink (h : LinkChange s t) (hs : s.OwnershipOk) (p : Port) (hp : s.ending p = true) (f : Flight)
    (hf : (t.link p).flight = some f) : f.stage = .held ∨ f.stage = .closing := by
  have hbefore : ∀ f, (s.link p).flight = some f → f.stage = .held ∨ f.stage = .closing := hs.held p hp
  cases h
  case link q l _ hflight =>
    rw [setLink_link] at hf
    split at hf
    next hq =>
      subst hq
      exact hbefore f (hflight ▸ hf)
    next => exact hbefore f hf
  case accept q req _ =>
    rw [setLink_link] at hf
    split at hf
    · cases hf
      exact .inl rfl
    · exact hbefore f hf
  case start q req c _ _ hpurge =>
    have hpq : p ≠ q := fun hpq => by simp [State.ending, hpq, hpurge] at hp
    rw [startOnWay_link_ne _ _ hpq] at hf
    exact hbefore f hf
  case complete q req r data _ _ =>
    rw [State.complete, freeGrant_link, setLink_link] at hf
    split at hf
    · simp [Link.flight_finish] at hf
    · exact hbefore f hf
  case snapping q req run stage hflight hstage =>
    rw [setLink_link] at hf
    split at hf
    next hq =>
      subst hq
      have hnot := hbefore _ hflight
      obtain ⟨rfl, -⟩ | ⟨before, rfl⟩ := hstage <;> simp at hnot
    next => exact hbefore f hf
  case closing q req _ _ =>
    rw [setLink_link] at hf
    split at hf
    · cases hf
      exact .inr rfl
    · exact hbefore f hf
  case drop q _ _ =>
    rw [leaveArbiter_link, setLink_link] at hf
    split at hf
    · cases hf
    · exact hbefore f hf

/-- With every port CLOSED and nothing owned, every law of ownership holds. -/
theorem ownershipOk_of_reset (hsession : ∀ p, s.session p = .reset) (hline : ∀ l, s.line l = .reset)
    (hslot : ∀ n, s.slot n = none) (hright : ∀ a, s.axisRight a = none) (hview : ∀ p, s.view p = .resetAt 0) :
    s.OwnershipOk where
  sessions p := hsession p ▸ Session.ok_reset
  unowned l _ := by
    rw [hline]
    exact ⟨rfl, rfl⟩
  named n t j h := by simp [hslot] at h
  closed p _ := by
    refine ⟨fun _ n => ?_, fun _ l => ?_, fun _ a => ?_, fun _ a => ?_⟩
    · rw [ownsSlot, hslot]
    · rw [hline]
      exact nofun
    · rw [hright]
      exact nofun
    · rw [hview]
      exact (View.resetAt_get 0 a).2
  ending p g h := by simp [hsession, Session.reset] at h
  after p g h := by simp [hsession, Session.reset] at h
  held p h := by simp [State.ending, hsession, Session.reset] at h

theorem ownershipOk_reset : State.reset.OwnershipOk :=
  ownershipOk_of_reset reset_session reset_line reset_slot reset_axisRight reset_view

theorem ownershipOk_underReset (s : State) (source : ResetSource) : (s.underReset source).OwnershipOk :=
  ownershipOk_of_reset reset_session reset_line reset_slot reset_axisRight reset_view

theorem ownershipOk_kept : KeptByChanges OwnershipOk where
  queue _ _ h := h.congr ⟨⟨rfl, rfl, rfl, rfl⟩, ⟨rfl, rfl⟩, ⟨rfl, rfl, rfl, rfl, rfl⟩, rfl, rfl, rfl, ⟨rfl, rfl⟩, rfl⟩ h.held
  reset s source _ := s.ownershipOk_underReset source
  block hchange h := ownershipOk_block hchange h
  link hchange h := h.congr hchange.sameBlocks (heldAfterLink hchange h)

end State

/-- Settles O58: each change of the blocks keeps ownership (`State.ownershipOk_block`), and no change of a link unit lets
a command of an ending port run (`State.heldAfterLink`). -/
theorem stepKeepsOwnership : Obligations.StepKeepsOwnership := State.ownershipOk_kept.step

end Sys2Proof.Machine

/-!
PROOF. The invariants of the held counts and the quotas (O56).
-/

namespace Sys2Proof.Machine

/-- Two predicates that differ at one entry of a list without repeats count the same but for that entry. -/
theorem countP_update {α : Type} [DecidableEq α] {l : List α} (hl : l.Nodup) {n : α} (hn : n ∈ l) {f g : α → Bool}
    (h : ∀ m, m ≠ n → g m = f m) :
    l.countP g + (if f n = true then 1 else 0) = l.countP f + if g n = true then 1 else 0 := by
  have hperm := List.perm_cons_erase hn
  have hrest : (l.erase n).countP g = (l.erase n).countP f := by
    refine List.countP_congr fun m hm => ?_
    have hne : m ≠ n := fun heq => hl.not_mem_erase (heq ▸ hm)
    rw [h m hne]
  rw [hperm.countP_eq, hperm.countP_eq, List.countP_cons, List.countP_cons, hrest]
  omega

theorem nodup_allSlots : allSlots.Nodup := List.nodup_finRange 96

theorem mem_allSlots (n : SlotNo) : n ∈ allSlots := List.mem_finRange n

namespace State

variable {s t : State}

/-- The number of slots port `p` owns. -/
def slotsOwned (s : State) (p : Port) : Nat := allSlots.countP (s.ownsSlot p)

theorem heldOk_iff : s.HeldOk ↔ ∀ p, s.heldBy p = s.slotsOwned p := Iff.rfl

theorem slotsOwned_congr {p : Port} (h : ∀ n, t.ownsSlot p n = s.ownsSlot p n) : t.slotsOwned p = s.slotsOwned p :=
  congrArg (allSlots.countP ·) (funext h)

/-- One slot changed. -/
theorem slotsOwned_update {p : Port} {n : SlotNo} (h : ∀ m, m ≠ n → t.slot m = s.slot m) :
    t.slotsOwned p + (if s.ownsSlot p n = true then 1 else 0) =
      s.slotsOwned p + if t.ownsSlot p n = true then 1 else 0 :=
  countP_update nodup_allSlots (mem_allSlots n) fun m hm => by rw [ownsSlot, ownsSlot, h m hm]

theorem slotsOwned_eq_zero {p : Port} (h : ∀ n, s.ownsSlot p n = false) : s.slotsOwned p = 0 := by
  simp [slotsOwned, List.countP_eq_zero, h]

/-- One slot in use changed for one of the same owner: every port owns what it owned. -/
theorem ownsSlot_of_sameOwner {n : SlotNo} {u v : Trigger} (hslot : s.slot n = some u)
    (h : ∀ m, t.slot m = if m = n then some v else s.slot m) (howner : v.owner = u.owner) (p : Port) (m : SlotNo) :
    t.ownsSlot p m = s.ownsSlot p m := by
  unfold ownsSlot
  by_cases hm : m = n
  · simp [h, hm, hslot, howner]
  · rw [h, if_neg hm]

theorem ownsSlot_purgeTable_ne (s : State) {p q : Port} (h : q ≠ p) (n : SlotNo) :
    (s.purgeTable p).ownsSlot q n = s.ownsSlot q n := by
  rw [ownsSlot, ownsSlot, purgeTable_slot]
  cases s.slot n with
  | none => rfl
  | some u =>
    by_cases hu : u.owner = p
    · have huq : u.owner ≠ q := fun heq => h (heq.symm.trans hu)
      simp [hu, Ne.symm h]
    · simp [hu]

/-! ### Held counts (R46) -/

theorem HeldOk.of_same (h : s.HeldOk) (hheld : ∀ p, t.heldBy p = s.heldBy p)
    (howns : ∀ p n, t.ownsSlot p n = s.ownsSlot p n) : t.HeldOk := fun p => by
  rw [hheld, h p]
  exact (slotsOwned_congr (howns p)).symm

theorem HeldOk.define (h : s.HeldOk) {p : Port} {n : SlotNo} {u : Trigger} (hfree : s.slot n = none)
    (howner : u.owner = p) : ((s.setSlot n (some u)).setHeld p (s.heldBy p + 1)).HeldOk := by
  intro q
  have hbefore : s.ownsSlot q n = false := by rw [ownsSlot, hfree]
  have hafter : ((s.setSlot n (some u)).setHeld p (s.heldBy p + 1)).ownsSlot q n = decide (p = q) := by
    simp [ownsSlot, howner]
  have hcount := slotsOwned_update (s := s) (t := (s.setSlot n (some u)).setHeld p (s.heldBy p + 1)) (p := q) (n := n)
    fun m hm => by rw [setHeld_slot, setSlot_slot_ne _ _ _ hm]
  rw [hbefore, hafter] at hcount
  have hq := heldOk_iff.mp h q
  change _ = slotsOwned _ q
  rw [setHeld_heldBy]
  by_cases hpq : p = q
  · subst hpq
    simp at hcount ⊢
    omega
  · simp [hpq, Ne.symm hpq] at hcount ⊢
    omega

theorem HeldOk.free (h : s.HeldOk) {n : SlotNo} {u : Trigger} (hslot : s.slot n = some u) :
    (s.freeSlot u.owner n).HeldOk := by
  intro q
  have hbefore : s.ownsSlot q n = decide (u.owner = q) := by rw [ownsSlot, hslot]
  have hafter : (s.freeSlot u.owner n).ownsSlot q n = false := by
    rw [ownsSlot, freeSlot, setHeld_slot, setSlot_slot_self]
  have hcount := slotsOwned_update (s := s) (t := s.freeSlot u.owner n) (p := q) (n := n)
    fun m hm => by rw [freeSlot, setHeld_slot, setSlot_slot_ne _ _ _ hm]
  rw [hbefore, hafter] at hcount
  have hq := heldOk_iff.mp h q
  change _ = slotsOwned _ q
  rw [freeSlot, setHeld_heldBy, ← freeSlot]
  by_cases hpq : u.owner = q
  · subst hpq
    simp at hcount ⊢
    omega
  · simp [hpq, Ne.symm hpq] at hcount ⊢
    omega

theorem HeldOk.purgeTable (h : s.HeldOk) (p : Port) : (s.purgeTable p).HeldOk := by
  intro q
  change _ = slotsOwned _ q
  by_cases hq : q = p
  · subst hq
    rw [purgeTable_heldBy_self, slotsOwned_eq_zero (s.ownsSlot_purgeTable q)]
  · rw [purgeTable_heldBy_ne _ _ hq, slotsOwned_congr (s.ownsSlot_purgeTable_ne hq)]
    exact h q

theorem heldOk_block (h : BlockChange s t) (hs : s.HeldOk) : t.HeldOk := by
  cases h
  case define p n u _ hfree _ howner _ _ _ _ => exact hs.define hfree howner
  case free n u hslot _ => exact hs.free hslot
  case purgeTable p => exact hs.purgeTable p
  case arm n u hslot _ _ => exact hs.of_same (by simp) (ownsSlot_of_sameOwner hslot (s.arm_slot n u) rfl)
  case unarm n u st hslot _ _ => exact hs.of_same (by simp) (ownsSlot_of_sameOwner hslot (s.unarm_slot n u st) rfl)
  case retire n u hslot _ => exact hs.of_same (by simp) (ownsSlot_of_sameOwner hslot (s.setSlot_slot n _) rfl)
  case fireOwn n u hslot _ =>
    refine hs.of_same (by simp) (ownsSlot_of_sameOwner hslot (s.fireOwn_slot n u) ?_)
    split <;> rfl
  all_goals
    refine hs.of_same ?_ ?_ <;> simp [heldBy, ownsSlot, slot, purgeLines, purgeNotes, purgeView, purgeRights,
      handToTable, markPurge, closeSession, openSession]

theorem HeldOk.congr (h : s.HeldOk) (hslots : t.slots = s.slots) (hheld : t.held = s.held) : t.HeldOk :=
  h.of_same (fun p => congrArg (·.get p) hheld) fun p n => by simp only [ownsSlot, slot, hslots]

theorem heldOk_reset : State.reset.HeldOk := fun p => by
  rw [reset_heldBy]
  exact (slotsOwned_eq_zero fun n => by rw [ownsSlot, reset_slot]).symm

theorem heldOk_kept : KeptByChanges HeldOk where
  queue _ _ h := h.congr rfl rfl
  reset _ _ _ := heldOk_reset.congr rfl rfl
  block hchange h := heldOk_block hchange h
  link hchange h := by
    obtain ⟨-, -, ⟨hslots, -, hheld, -⟩, -⟩ := hchange.sameBlocks
    exact h.congr hslots hheld

/-! ### Quotas (R46) -/

theorem QuotasOk.congr (h : s.QuotasOk) (hheld : ∀ p, t.heldBy p ≤ s.heldBy p)
    (hquota : ∀ p, (t.session p).quota = (s.session p).quota) : t.QuotasOk := fun p => by
  rw [hquota]
  exact (hheld p).trans (h p)

/-- A port whose purge has taken the table's step holds nothing, whatever its quota becomes. -/
theorem HeldOk.heldBy_eq_zero (h : s.HeldOk) {p : Port} {g : Purge} (hback : s.GivenBack p g) (hg : g.table = true) :
    s.heldBy p = 0 :=
  (h p).trans (slotsOwned_eq_zero (hback.slots hg))

theorem quotasOk_block (h : BlockChange s t) (hheld : s.HeldOk) (howner : s.OwnershipOk) (hs : s.QuotasOk) :
    t.QuotasOk := by
  cases h
  case define p n u _ _ _ _ _ _ _ hquota =>
    intro q
    rw [setHeld_heldBy]
    split
    next hq => exact hq ▸ hquota
    next => exact hs q
  case free n u _ _ =>
    refine hs.congr (fun q => ?_) (by simp)
    rw [freeSlot, setHeld_heldBy]
    split
    next hq => exact hq ▸ Nat.sub_le _ _
    next => exact Nat.le_refl _
  case purgeTable p =>
    refine hs.congr (fun q => ?_) fun q => ?_
    · by_cases hq : q = p
      · rw [hq, purgeTable_heldBy_self]
        exact Nat.zero_le _
      · exact (purgeTable_heldBy_ne _ _ hq).le
    · rw [session, (s.purgeTable_kept p).sessions]
      rfl
  case mark p g g' _ _ _ _ =>
    refine hs.congr (fun q => Nat.le_refl _) fun q => ?_
    rw [markPurge_session]
    split
    next hq => rw [hq]
    next => rfl
  case timers x hsame _ =>
    refine hs.congr (fun q => Nat.le_refl _) fun q => ?_
    change (x.get q).quota = _
    rw [hsame]
  case beginPurge p byExpiry _ _ =>
    refine hs.congr (fun q => Nat.le_refl _) fun q => ?_
    rw [setSession_session]
    split
    next hq => rw [hq]; rfl
    next => rfl
  case closeSession p g hg hall =>
    intro q
    rw [closeSession_session]
    split
    next hq =>
      have htable := ((howner.ending p g hg).of_all hall).slots rfl
      exact (hq ▸ (hheld p).trans (slotsOwned_eq_zero htable)).le
    next => exact hs q
  case openSession p k quota hclosed _ =>
    intro q
    rw [openSession_session]
    split
    next hq =>
      have hzero : s.heldBy q = 0 := hq ▸ hheld.heldBy_eq_zero (howner.closed p hclosed) rfl
      exact hzero.trans_le (Nat.zero_le _)
    next => exact hs q
  all_goals
    refine hs.congr (fun q => ?_) fun q => ?_ <;>
      simp [heldBy, session, purgeLines, purgeNotes, purgeView, purgeRights, handToTable]

theorem quotasOk_kept : KeptByChanges fun s => s.HeldOk ∧ s.OwnershipOk ∧ s.QuotasOk where
  queue s l := fun ⟨hheld, howner, hquota⟩ =>
    ⟨heldOk_kept.queue s l hheld, ownershipOk_kept.queue s l howner, hquota⟩
  reset s source := fun ⟨hheld, howner, _⟩ =>
    ⟨heldOk_kept.reset s source hheld, ownershipOk_kept.reset s source howner, fun p => by
      rw [show (s.underReset source).heldBy p = 0 from reset_heldBy p]
      exact Nat.zero_le _⟩
  block hchange := fun ⟨hheld, howner, hquota⟩ =>
    ⟨heldOk_block hchange hheld, ownershipOk_block hchange howner, quotasOk_block hchange hheld howner hquota⟩
  link hchange := fun ⟨hheld, howner, hquota⟩ => by
    obtain ⟨-, -, ⟨-, -, hheldSame, -⟩, -, -, -, ⟨hsessions, -⟩, -⟩ := hchange.sameBlocks
    exact ⟨heldOk_kept.link hchange hheld, ownershipOk_kept.link hchange howner,
      hquota.congr (fun p => (congrArg (·.get p) hheldSame).le) fun p => congrArg (fun x => (x.get p).quota) hsessions⟩

end State

/-- Settles O56: each change keeps the counts of the slots owned (`State.heldOk_kept`), and with ownership, by which a
port gives back its slots before its quota ends, the quotas (`State.quotasOk_kept`). -/
theorem stepKeepsHeldCounts : Obligations.StepKeepsHeldCounts := by
  refine ⟨State.heldOk_kept.step, fun s t hheld howner hquota hstep => ?_⟩
  obtain ⟨-, -, h⟩ := State.quotasOk_kept.step s t ⟨hheld, howner, hquota⟩ hstep
  exact h

end Sys2Proof.Machine

/-!
PROOF. The invariants of the arm lists and of the slots (O55).
-/

namespace Sys2Proof.Machine

namespace State

variable {s t : State}

/-! ### Arm lists (R42, R48, R49) -/

/-- A slot that is in no list may be filled, emptied or changed, as long as it stays out of the lists at its origin. -/
theorem TableOk.setIdle (h : s.TableOk) {n : SlotNo} {o : Option Trigger}
    (hold : ∀ u, s.slot n = some u → u.state ≠ .armed)
    (hnew : ∀ u, o = some u → u.state ≠ .armed ∧ u.target = u.origin) : (s.setSlot n o).TableOk := by
  have hout : ∀ {a m}, m ∈ s.armList a → m ≠ n := fun hm heq => h.unlisted hold _ (heq ▸ hm)
  refine ⟨fun a m => ?_, h.once, fun a => ?_, fun m v hv hstate => ?_⟩
  · rw [setSlot_armList, setSlot_slot]
    split
    next hm =>
      refine iff_of_false (fun hmem => hout hmem hm) ?_
      rintro ⟨u, hu, harmed, -⟩
      exact (hnew u hu).1 harmed
    next => exact h.listed a m
  · refine (h.sorted a).imp_of_mem fun {m k} hm hk hle => ?_
    rwa [targetOf_congr (setSlot_slot_ne s n o (hout hm)), targetOf_congr (setSlot_slot_ne s n o (hout hk))]
  · rw [setSlot_slot] at hv
    split at hv
    · exact (hnew v hv).2
    · exact h.atOrigin m v hv hstate

theorem purgeTable_slot_some {p : Port} {n : SlotNo} {u : Trigger} :
    (s.purgeTable p).slot n = some u ↔ s.slot n = some u ∧ u.owner ≠ p := by
  rw [purgeTable_slot]
  cases s.slot n with
  | none => simp
  | some v =>
    by_cases hv : v.owner = p
    · simp only [Option.bind_some, hv, if_true, Option.some.injEq, reduceCtorEq, false_iff, not_and, not_not]
      exact fun heq => heq ▸ hv
    · simp only [Option.bind_some, hv, if_false, Option.some.injEq]
      exact ⟨fun heq => ⟨heq, heq ▸ hv⟩, And.left⟩

theorem mem_purgeTable_armList {p : Port} {a : Axis} {n : SlotNo} (h : s.TableOk) :
    n ∈ (s.purgeTable p).armList a ↔ ∃ u, s.slot n = some u ∧ u.owner ≠ p ∧ u.state = .armed ∧ u.axis = a := by
  rw [purgeTable_armList, List.mem_filter, h.listed]
  constructor
  · rintro ⟨⟨u, hu, harmed, haxis⟩, hkept⟩
    exact ⟨u, hu, by simpa [hu] using hkept, harmed, haxis⟩
  · rintro ⟨u, hu, howner, harmed, haxis⟩
    exact ⟨⟨u, hu, harmed, haxis⟩, by simpa [hu] using howner⟩

theorem TableOk.purgeTable (h : s.TableOk) (p : Port) : (s.purgeTable p).TableOk := by
  have hsub : ∀ a, ((s.purgeTable p).armList a).Sublist (s.armList a) := fun a => by
    rw [purgeTable_armList]
    exact List.filter_sublist
  have hkept : ∀ {a n}, n ∈ (s.purgeTable p).armList a → (s.purgeTable p).slot n = s.slot n := fun hn => by
    obtain ⟨u, hu, howner, -⟩ := (mem_purgeTable_armList h).mp hn
    rw [hu]
    exact purgeTable_slot_some.mpr ⟨hu, howner⟩
  refine ⟨fun a n => ?_, fun a => (h.once a).sublist (hsub a), fun a => ?_, fun n u hu hstate => ?_⟩
  · rw [mem_purgeTable_armList h]
    simp only [purgeTable_slot_some, and_assoc]
  · refine ((h.sorted a).sublist (hsub a)).imp_of_mem fun {m k} hm hk hle => ?_
    rwa [targetOf_congr (hkept hm), targetOf_congr (hkept hk)]
  · exact h.atOrigin n u (purgeTable_slot_some.mp hu).1 hstate

theorem tableOk_block (h : BlockChange s t) (hs : s.TableOk) : t.TableOk := by
  cases h
  case define p n u _ hfree hstate _ htarget _ _ _ =>
    refine (hs.setIdle (n := n) (o := some u) (by simp [hfree]) fun v hv => ?_).congr rfl rfl
    cases hv
    exact ⟨by simp [hstate], htarget⟩
  case arm n u hslot hstate _ =>
    rw [arm_eq_enlist]
    exact enlist_tableOk hs (hs.unlisted fun v hv => by cases hslot.symm.trans hv; simp [hstate]) rfl
  case unarm n u st hslot _ hst => exact unarm_tableOk hs (fun v hv => by cases hslot.symm.trans hv; rfl) hst
  case fireOwn n u hslot harmed => exact fireOwn_tableOk hs hslot harmed
  case free n u hslot hstate =>
    exact (hs.setIdle (n := n) (o := none) (fun v hv => by cases hslot.symm.trans hv; exact hstate) (by simp)).congr
      (by simp [freeSlot]) (by simp [freeSlot])
  case retire n u hslot hstate =>
    refine hs.setIdle (fun v hv => by cases hslot.symm.trans hv; simp [hstate]) fun v hv => ?_
    cases hv
    exact ⟨nofun, rfl⟩
  case purgeTable p => exact hs.purgeTable p
  all_goals
    refine hs.congr ?_ ?_ <;> simp [purgeLines, purgeNotes, purgeView, purgeRights, handToTable, markPurge,
      closeSession, openSession]

theorem tableOk_reset : State.reset.TableOk where
  listed a n := by simp
  once a := by simp
  sorted a := by simp
  atOrigin n t h := by simp at h

theorem tableOk_kept : KeptByChanges TableOk where
  queue _ _ h := h.congr rfl rfl
  reset _ _ _ := tableOk_reset.congr rfl rfl
  block hchange h := tableOk_block hchange h
  link hchange h := by
    obtain ⟨-, -, ⟨hslots, hlists, -⟩, -⟩ := hchange.sameBlocks
    exact h.congr hslots hlists

/-! ### Slots (R39, R40, R59) -/

end State

/-- Origin, pitch and target of a slot lie in the range of an axis of this modulus. -/
def Trigger.RunsWithin (t : Trigger) (modulus : Nat) : Prop :=
  t.InRange modulus ∧ (modulus ≠ 0 → 0 ≤ t.target.toInt ∧ t.target.toInt < modulus)

/-- An arming begins at the origin, which its check has found in range (R59, R60). -/
theorem Trigger.armedAtOrigin_runsWithin {t : Trigger} {modulus : Nat} (h : t.fits modulus = true) :
    t.armedAtOrigin.RunsWithin modulus := by
  have hin := (t.fits_iff modulus).mp h
  refine ⟨fun hm => ⟨(hin hm).1, fun r hr => ?_⟩, fun hm => (hin hm).1⟩
  obtain ⟨r', hr', rfl⟩ := Option.map_eq_some_iff.mp hr
  exact (hin hm).2 r' hr'

/-- A repeating slot stays in the range of its axis: target plus pitch is wrapped into it (R73). -/
theorem Trigger.RunsWithin.repeats {t : Trigger} {modulus : Nat} (h : t.RunsWithin modulus)
    (hmax : modulus ≤ Config.maxModulus) {pitch : Word} {rep : Repeat} (hcount : t.countFire = .repeats pitch rep) :
    RunsWithin { t with target := nextTarget modulus t.target pitch, rep := some rep } modulus := by
  have hrep := t.countFire_rep
  rw [hcount] at hrep
  obtain ⟨r', hr', rfl, hpitch, -⟩ := hrep
  obtain ⟨hin, htarget⟩ := h
  refine ⟨fun hm => ⟨(hin hm).1, fun r hr => ?_⟩, fun hm => ?_⟩
  · cases hr
    rw [hpitch]
    exact (hin hm).2 r' hr'
  · obtain ⟨hhigh, hlow⟩ := (hin hm).2 r' hr'
    obtain ⟨htlow, hthigh⟩ := htarget hm
    have hnext := nextTarget_toInt (target := t.target) (pitch := r'.pitch) hm hmax htlow hthigh (by omega)
    dsimp only
    rw [hnext]
    exact ⟨Int.emod_nonneg _ (by omega), Int.emod_lt_of_pos _ (by omega)⟩

namespace State

variable {s t : State}

theorem slotsOk_iff : s.SlotsOk ↔ ∀ n u, s.slot n = some u →
    u.Agrees ∧ (u.state = .armed → u.RunsWithin (s.axis u.axis).config.modulus) := Iff.rfl

/-- The modulus of an axis stays, or no slot is armed on it (R19). -/
theorem modulus_block (h : BlockChange s t) (a : Axis) :
    (t.axis a).config.modulus = (s.axis a).config.modulus ∨ s.armList a = [] := by
  cases h
  case axes x _ _ hmodulus => exact .inl (hmodulus a)
  case reference b u r _ _ hmodulus _ _ =>
    rw [handToTable_axis, setAxis_axis]
    split
    next hab => exact hab ▸ hmodulus
    next => exact .inl rfl
  all_goals
    refine .inl ?_
    simp [axis, purgeTable, purgeLines, purgeNotes, purgeView, purgeRights, handToTable, markPurge, closeSession,
      openSession]

/-- The slots that are ARMED after a change, by what they were before it. -/
theorem armed_block (h : BlockChange s t) {n : SlotNo} {v : Trigger} (hv : t.slot n = some v) (harmed : v.state = .armed) :
    s.slot n = some v ∨
      (t.axes = s.axes ∧ ∃ u, s.slot n = some u ∧ v = u.armedAtOrigin ∧ u.fits (s.axis u.axis).config.modulus = true) ∨
      (t.axes = s.axes ∧ ∃ u pitch rep, s.slot n = some u ∧ u.state = .armed ∧ u.countFire = .repeats pitch rep ∧
        v = { u with target := nextTarget (s.axis u.axis).config.modulus u.target pitch, rep := some rep }) := by
  cases h
  case define p m u _ _ hstate _ _ _ _ _ =>
    rw [setHeld_slot, setSlot_slot] at hv
    split at hv
    · cases hv
      simp [hstate] at harmed
    · exact .inl hv
  case arm m u hslot _ hfits =>
    rw [arm_slot] at hv
    split at hv
    next hm =>
      cases hv
      exact .inr (.inl ⟨by simp, u, hm ▸ hslot, rfl, hfits⟩)
    next => exact .inl hv
  case unarm m u st _ _ hst =>
    rw [unarm_slot] at hv
    split at hv
    · cases hv
      exact absurd harmed hst
    · exact .inl hv
  case fireOwn m u hslot hu =>
    rw [fireOwn_slot] at hv
    split at hv
    next hm =>
      cases hc : u.countFire with
      | repeats pitch rep =>
        rw [hc] at hv
        cases hv
        exact .inr (.inr ⟨by simp, u, pitch, rep, hm ▸ hslot, hu, hc, rfl⟩)
      | finishes rep =>
        rw [hc] at hv
        cases hv
        cases hr : u.retain <;> simp [hr] at harmed
    next => exact .inl hv
  case free m u _ _ =>
    rw [freeSlot, setHeld_slot, setSlot_slot] at hv
    split at hv
    · cases hv
    · exact .inl hv
  case retire m u _ _ =>
    rw [setSlot_slot] at hv
    split at hv
    · cases hv
      cases harmed
    · exact .inl hv
  case purgeTable p => exact .inl (purgeTable_slot_some.mp hv).1
  all_goals
    refine .inl ?_
    simpa [slot, purgeLines, purgeNotes, purgeView, purgeRights, handToTable, markPurge, closeSession, openSession]
      using hv

theorem slotsOk_block (h : BlockChange s t) (haxes : s.AxesOk) (htable : s.TableOk) (hs : s.SlotsOk) : t.SlotsOk := by
  rw [slotsOk_iff] at hs ⊢
  refine fun n v hv => ⟨?_, fun harmed => ?_⟩
  · obtain ⟨u, hu, hfollows⟩ | ⟨-, -, -, hagrees⟩ := slot_block h hv
    · exact hfollows.agrees (hs n u hu).1
    · exact hagrees
  · obtain hsame | ⟨hsame, u, hu, rfl, hfits⟩ | ⟨hsame, u, pitch, rep, hu, hstate, hcount, rfl⟩ :=
      armed_block h hv harmed
    · obtain hmodulus | hempty := modulus_block h v.axis
      · rw [hmodulus]
        exact (hs n v hsame).2 harmed
      · have hlisted : n ∈ s.armList v.axis := (htable.listed v.axis n).mpr ⟨v, hsame, harmed, rfl⟩
        simp [hempty] at hlisted
    · have hmodulus : t.axis u.armedAtOrigin.axis = s.axis u.axis := by rw [axis, hsame]; rfl
      rw [hmodulus]
      exact Trigger.armedAtOrigin_runsWithin hfits
    · have hmodulus : t.axis u.axis = s.axis u.axis := by rw [axis, hsame]; rfl
      rw [hmodulus]
      exact ((hs n u hu).2 hstate).repeats (haxes u.axis).modulus.2 hcount

theorem SlotsOk.congr (h : s.SlotsOk) (hslots : t.slots = s.slots) (haxes : t.axes = s.axes) : t.SlotsOk :=
  fun n u hu => by
    have hslot : s.slot n = some u := by rwa [slot, hslots] at hu
    rw [axis, haxes]
    exact h n u hslot

theorem slotsOk_reset : State.reset.SlotsOk := fun n t h => by simp at h

theorem slotsOk_kept : KeptByChanges fun s => s.AxesOk ∧ s.TableOk ∧ s.SlotsOk where
  queue s l := fun ⟨haxes, htable, hslots⟩ =>
    ⟨axesOk_kept.queue s l haxes, tableOk_kept.queue s l htable, hslots.congr rfl rfl⟩
  reset s source := fun ⟨haxes, htable, _⟩ =>
    ⟨axesOk_kept.reset s source haxes, tableOk_kept.reset s source htable, slotsOk_reset.congr rfl rfl⟩
  block hchange := fun ⟨haxes, htable, hslots⟩ =>
    ⟨axesOk_block hchange haxes, tableOk_block hchange htable, slotsOk_block hchange haxes htable hslots⟩
  link hchange := fun ⟨haxes, htable, hslots⟩ => by
    obtain ⟨-, ⟨haxesSame, -⟩, ⟨hslotsSame, -⟩, -⟩ := hchange.sameBlocks
    exact ⟨axesOk_kept.link hchange haxes, tableOk_kept.link hchange htable, hslots.congr hslotsSame haxesSame⟩

end State

/-- Settles O55: each change keeps the arm lists (`State.tableOk_kept`), and with lawful axes and lists, by which a
modulus changes under no ARMED slot, the fields of the slots (`State.slotsOk_kept`). -/
theorem stepKeepsArmLists : Obligations.StepKeepsArmLists := by
  refine ⟨State.tableOk_kept.step, fun s t haxes htable hslots hstep => ?_⟩
  obtain ⟨-, -, h⟩ := State.slotsOk_kept.step s t ⟨haxes, htable, hslots⟩ hstep
  exact h

/-- Settles O60: each invariant of the state after reset, from the lemmas beside its steps. -/
theorem resetMeetsEveryInvariant : Obligations.ResetMeetsEveryInvariant :=
  ⟨State.sessionsOk_reset, State.notesOk_reset, State.axesOk_reset, State.tableOk_reset, State.heldOk_reset,
    State.arbiterOk_reset, State.ownershipOk_reset, State.epochsOk_reset, State.deltasOk_reset, State.slotsOk_reset,
    fun p => by simp⟩

end Sys2Proof.Machine

/-!
PROOF. The queue, reset and time (O1, O2, O5, O6), the filters (O7), the close of a purge (O42) and the start of a
transaction (O44).
-/

namespace Sys2Proof.Machine

/-! ### The queue of commands -/

/-- Settles O1: the two branches of `step`. -/
theorem stepRunsFrontCommand : Obligations.StepRunsFrontCommand := by
  refine ⟨fun c rest s h => ?_, fun s h => ?_⟩
  · rw [step, h]
  · rw [step, h]

/-- No command faults and none is refused: only the two that take a record of the table look before they answer. -/
theorem exec_answers (c : Instr) (s : State) : ∃ t, exec c s = .next t := by
  cases c
  case matchCountArrival a =>
    change ∃ t, execMatchCountArrival a s = .next t
    unfold execMatchCountArrival
    split <;> exact ⟨_, rfl⟩
  case referenceRecord a =>
    change ∃ t, execReferenceRecord a s = .next t
    unfold execReferenceRecord
    split <;> exact ⟨_, rfl⟩
  all_goals exact ⟨_, rfl⟩

/-- Every command leaves the queue, and every command but a reset the recorded cause. -/
theorem exec_pending {c : Instr} {s t : State} (h : exec c s = .next t) : t.pending = s.pending := by
  by_cases hreset : ∃ source, c = .deviceReset source
  · obtain ⟨source, rfl⟩ := hreset
    cases (exec_deviceReset source s).symm.trans h
    rfl
  · exact (exec_path (fun source hc => hreset ⟨source, hc⟩) h).outside.1

theorem exec_resetCause {c : Instr} {s t : State} (hreset : ∀ source, c ≠ .deviceReset source)
    (h : exec c s = .next t) : t.resetCause = s.resetCause := (exec_path hreset h).outside.2

/-- A master's command whose first step is not due changes nothing. -/
theorem exec_instr_of_notDue {c : Cmd} {p : Port} (makers : Makers) {s : State} (h : s.runnable c p = none) :
    exec (c.instr p makers) s = .next s := by
  cases c
  case snap | closeSession =>
    refine congrArg Host.Outcome.next ?_
    simp only [h]
  all_goals exact congrArg _ (State.runCommand_of_notDue h)

/-- Settles O2: `exec_answers`, `exec_pending` and `exec_instr_of_notDue`. -/
theorem everyCommandAnswers : Obligations.EveryCommandAnswers := by
  refine ⟨fun c s => ?_, fun c p makers s => exec_instr_of_notDue makers⟩
  obtain ⟨t, ht⟩ := exec_answers c s
  exact ⟨t, ht, exec_pending ht⟩

/-! ### The cause of a reset (R146) -/

/-- The cause sources `l` leave when they come into force under a reset recorded with cause `c`. -/
theorem foldl_joined (l : List ResetSource) (c : ResetCause) : l.foldl ResetCause.joined c =
    if .powerOn ∈ l ∨ c = .powerOn then .powerOn else if .supplyLow ∈ l ∨ c = .supplyLow then .supplyLow else .pin := by
  induction l generalizing c with
  | nil => cases c <;> simp
  | cons x l ih =>
    rw [List.foldl_cons, ih]
    cases x <;> cases c <;> simp [ResetCause.joined]

/-- Resets one after another, the first of them under a reset already. -/
theorem runAll_resets (l : List ResetSource) {s : State} (h : s.inReset = true) :
    ∃ t, runAll (l.map .deviceReset) s = .next t ∧ t.inReset = true ∧
      t.resetCause = l.foldl ResetCause.joined s.resetCause := by
  induction l generalizing s with
  | nil => exact ⟨s, rfl, h, rfl⟩
  | cons x l ih =>
    have hcause : (s.underReset x).resetCause = s.resetCause.joined x := if_pos h
    obtain ⟨t, hrun, hreset, ht⟩ := ih (s := s.underReset x) rfl
    exact ⟨t, hrun, hreset, by rw [ht, hcause, List.foldl_cons]⟩

/-- Settles O5: the sources join one by one (`foldl_joined`), and no other command is a reset (`exec_resetCause`). -/
theorem resetCauseFollowsSources : Obligations.ResetCauseFollowsSources := by
  refine ⟨fun x l s h => ?_, fun c s t hreset => exec_resetCause hreset⟩
  have hcause : (s.underReset x).resetCause = causeOf x := if_neg (by simp [h])
  obtain ⟨t, hrun, hreset, ht⟩ := runAll_resets l (s := s.underReset x) rfl
  refine ⟨t, hrun, hreset, ?_⟩
  rw [ht, hcause, foldl_joined]
  cases x <;> simp [causeOf]

/-! ### TICK (R1, R2) -/

theorem Timer.iterate_step_load {n k : Nat} (h : k < n) : (Timer.step^[k]) (Timer.load n) = .running (n - k) := by
  induction k with
  | zero => simp [Timer.load, Nat.ne_of_gt h]
  | succ k ih =>
    have hleft : ¬n - k ≤ 1 := by omega
    rw [Function.iterate_succ_apply', ih (by omega), Timer.step, if_neg hleft, Nat.sub_sub]

theorem Timer.iterate_step_load_self {n : Nat} (h : 0 < n) : (Timer.step^[n]) (Timer.load n) = .due := by
  obtain ⟨k, rfl⟩ : ∃ k, n = k + 1 := ⟨n - 1, by omega⟩
  rw [Function.iterate_succ_apply', iterate_step_load (Nat.lt_succ_self k), Timer.step, if_pos (by omega)]

theorem Timer.iterate_step_stopped (k : Nat) : (Timer.step^[k]) .stopped = .stopped := Function.iterate_fixed rfl k

theorem State.tickDue_iff (s : State) : s.tickDue = true ↔ s.inReset = false ∧ 16 ≤ s.periods ∧
    (∀ a, (s.axis a).stallTimer ≠ .due) ∧ (∀ l, (s.line l).timer ≠ .due) ∧ ∀ p, s.keepaliveDue p = false := by
  have haxes : ∀ a : Axis, a ∈ allAxes := by decide
  have hlines : ∀ l : LineNo, l ∈ allLines := by decide
  have hports : ∀ p : Port, p ∈ allPorts := fun p => by cases p <;> decide
  rw [State.tickDue, decide_eq_true_eq]
  simp [State.expiryOutstanding, List.any_eq_false, haxes, hlines, hports, and_assoc]

/-- Settles O6: `State.advanceTick` field by field, and the timers by iterating `Timer.step`. -/
theorem tickMovesCounterAndTimers : Obligations.TickMovesCounterAndTimers := by
  refine ⟨fun s hreset hperiods haxes hlines hports => ⟨s.advanceTick, ?_, rfl, Nat.sub_add_cancel hperiods, fun a => ?_,
    fun l => ?_, fun p => ?_, rfl, rfl, rfl, rfl, ⟨rfl, rfl, rfl, rfl, rfl⟩, rfl, rfl, rfl, rfl, rfl, rfl, rfl⟩,
    fun s hreset => ?_, exec_resetRelease, fun n k => Timer.iterate_step_load, fun n => Timer.iterate_step_load_self,
    Timer.iterate_step_stopped⟩
  · exact congrArg _ (if_pos (s.tickDue_iff.mpr ⟨hreset, hperiods, haxes, hlines, hports⟩))
  · simp [State.advanceTick, State.axis]
  · simp [State.advanceTick, State.line]
  · cases p <;> rfl
  · refine congrArg _ (if_neg fun hdue => ?_)
    simp [(s.tickDue_iff.mp hdue).1] at hreset

/-! ### Filters (R3, R4) -/

theorem Inputs.get_sample (x : Inputs) (pins : AxisPins) (i : Input) :
    (x.sample pins).get i = (x.get i).sample (levelOf pins i) := by
  cases i <;> rfl

/-- A phase that is unsettled, or settled at this very sample, makes no count (R4). -/
theorem Inputs.decode_nothing {x : Inputs} (cfg : AxisConfig)
    (h : x.pha.level = none ∨ x.phb.level = none ∨ x.pha.settledNow = true ∨ x.phb.settledNow = true) :
    x.decode cfg = .nothing := by
  unfold decode
  split
  next _ _ hpha hphb =>
    refine if_pos ?_
    simpa [hpha, hphb] using h
  next => rfl

theorem State.takeSample_axis (s : State) (pins : Vector AxisPins 4) (a : Axis) :
    (s.takeSample pins).axis a = { s.axis a with inputs := (s.axis a).inputs.sample pins[a] } := by
  simp [State.takeSample, State.axis]

/-- Settles O7: `Filter.sample` by the level, and the decoder's silence (`Inputs.decode_nothing`). -/
theorem filtersMeetSamples : Obligations.FiltersMeetSamples := by
  refine ⟨fun pins s hreset hperiods hnone => ⟨s.takeSample pins, ?_, rfl, rfl, fun a i => ⟨fun l hl => ?_, fun hl => ?_⟩,
    fun a => ?_, rfl, rfl, rfl, ⟨rfl, rfl, rfl, rfl, rfl⟩, rfl, rfl, rfl, ⟨rfl, rfl⟩, rfl, rfl, rfl, rfl, rfl⟩,
    fun a i s hl hstreak => ?_, fun a makers s hdue hunsettled => ?_⟩
  · refine congrArg _ (if_pos ?_)
    simp [State.sampleDue, hreset, hperiods, hnone]
  · rw [State.takeSample_axis, Inputs.get_sample]
    simp [Filter.sample, hl]
  · rw [State.takeSample_axis, Inputs.get_sample]
    simp [Filter.sample, hl]
  · rw [State.takeSample_axis]
  · refine congrArg _ (if_pos ?_)
    simp [Filter.settleDue, hl, hstreak]
  · rw [exec_acceptedChange_phases hdue, Inputs.decode_nothing _ hunsettled]
    rfl

/-! ### The close of a purge (R157) -/

/-- Settles O42: `Session.close` of the purge that is done, then `State.afterPurge` by the command in flight. -/
theorem purgeCloseEndsTheSession : Obligations.PurgeCloseEndsTheSession := by
  intro p s u byExpiry hg hu
  have hclosed : exec (.purgeClose p) s = .next (u.afterPurge p) := by
    subst hu
    simp only [exec, execPurgeClose, hg]
    rfl
  have hlink : u.link p = s.link p := by
    subst hu
    rfl
  rw [← hlink, hclosed]
  refine ⟨fun hf => ?_, fun req hf => ?_, fun req hf => ?_⟩ <;> simp [State.afterPurge, hf]

/-! ### The outgoing frame (R165, R166) -/

theorem Session.stateByte_eq (r : Session) : r.stateByte =
    byteOf ((if r.state = .opened then 1 else 0) + (if r.fresh then 2 else 0) + (if r.lost then 4 else 0)) := by
  rw [Session.stateByte]
  cases r.state <;> cases r.fresh <;> cases r.lost <;> rfl

theorem PortSlot.code_eq (x : PortSlot) : x.code = match x with
    | .empty => 0
    | .pending => 1
    | .ready => 2 := by
  cases x <;> rfl

theorem Reject.code_eq (x : Reject) : x.code = match x with
    | .none => 0
    | .length => 1
    | .crc => 2
    | .pending => 3 := by
  cases x <;> rfl

/-- Settles O44: the fields of the frame by the slot, and data out by the transaction. -/
theorem transactionStartBuildsTheFrame : Obligations.TransactionStartBuildsTheFrame := by
  refine ⟨fun p s body resp hselect hreset hempty hpending hready hbody => ?_,
    fun p s k hreset => ⟨fun htrans hk => ?_, fun htrans hk => ?_, fun hselect htrans => ?_⟩⟩
  · have hresp : (s.link p).responseFields = resp := by
      unfold Link.responseFields
      cases hslot : (s.link p).slot with
      | empty => simp [hempty hslot]
      | pending => cases hreq : (s.link p).heldRequest <;> simp [hpending hslot, hreq]
      | ready =>
        obtain ⟨r, hr, hdata⟩ := hready hslot
        simp [hr, hdata]
    have hframe : s.frameBody p = body := by
      rw [State.frameBody, hresp, Session.stateByte_eq, PortSlot.code_eq, Reject.code_eq]
      exact hbody.symm
    refine congrArg _ ((if_neg (by simp [hselect])).trans ((if_neg (by simp [hreset])).trans ?_))
    rw [State.outgoing, hframe]
  · simp [State.dataOut, hreset, htrans, List.getD_eq_getElem?_getD, hk]
  · simp [State.dataOut, hreset, htrans, List.getD_eq_getElem?_getD, hk]
  · simp [State.dataOut, hreset, htrans, hselect]

end Sys2Proof.Machine

/-!
PROOF. Axis notes and the motion monitor (O12, O13), and the reference of the axis unit (O15).
-/

namespace Sys2Proof.Machine

/-! ### Who takes an axis note (R141, R186) -/

/-- A mask names a kind by the kind's bit, and names no trigger kind (section 10.6). -/
theorem maskHas_iff (m : BitVec 4) (k : NoteKind) : maskHas m k = true ↔
    (k = .motion ∧ m.getLsbD 0 = true) ∨ (k = .still ∧ m.getLsbD 1 = true) ∨ (k = .reref ∧ m.getLsbD 2 = true) ∨
      (k = .doubt ∧ m.getLsbD 3 = true) := by
  cases k <;> simp [maskHas, NoteKind.maskBit]

/-- The notification units alone differ. -/
def OnlyNotes (s t : State) : Prop := t = { s with notes := t.notes }

namespace OnlyNotes

variable {s t u : State}

theorem refl (s : State) : OnlyNotes s s := rfl

theorem trans (h : OnlyNotes s t) (h' : OnlyNotes t u) : OnlyNotes s u :=
  Eq.trans h' (congrArg (fun x : State => { x with notes := u.notes }) h)

end OnlyNotes

namespace State

variable (s : State)

theorem hears_iff (p : Port) (a : Axis) (k : NoteKind) :
    s.hears p a k = true ↔ (s.session p).state = .opened ∧ maskHas (s.view p).masks[a] k = true := by
  simp [hears]

theorem handIfHeard_onlyNotes (r : Report) (p : Port) : OnlyNotes s (s.handIfHeard r p) := by
  unfold handIfHeard
  split <;> rfl

theorem route_onlyNotes (r : Report) : OnlyNotes s (s.route r) :=
  ((s.handIfHeard_onlyNotes r .a).trans (handIfHeard_onlyNotes _ r .b)).trans (handIfHeard_onlyNotes _ r .c)

theorem handInOrder_onlyNotes (makers : Makers) (first : Maker) (r : Report) (p : Port) :
    OnlyNotes s (s.handInOrder makers first r p) := by
  unfold handInOrder
  split
  · exact s.handIfHeard_onlyNotes r p
  · exact .refl s

theorem routeIn_onlyNotes (makers : Makers) (first : Maker) (note : Option Report) :
    OnlyNotes s (s.routeIn makers first note) := by
  cases note with
  | none => exact .refl s
  | some r =>
    exact ((s.handInOrder_onlyNotes makers first r .a).trans (handInOrder_onlyNotes _ makers first r .b)).trans
      (handInOrder_onlyNotes _ makers first r .c)

/-- In the order of the makers each port takes what it takes of a note that goes to all (R186). -/
theorem routeIn_note_route (makers : Makers) (first : Maker) (r : Report) (p : Port) :
    (s.routeIn makers first (some r)).note p = if makers.first p = first then (s.route r).note p else s.note p := by
  rw [routeIn_note, route_note]
  by_cases h : makers.first p = first <;> simp [h]

end State

/-- Settles O13: who hears a kind is read off session and mask, and handing out a note changes units alone. -/
theorem axisNotesGoToSubscribers : Obligations.AxisNotesGoToSubscribers := by
  refine ⟨fun s r p => ?_, State.route_onlyNotes, fun s r makers first p => ?_, fun s note makers first =>
    ⟨rfl, s.routeIn_onlyNotes makers first note⟩⟩
  · rw [State.route_note]
    exact if_congr ((s.hears_iff p r.axis r.kind).trans (and_congr_right fun _ => maskHas_iff _ _)) rfl rfl
  · rw [State.routeIn_note_route]
    cases p <;> rfl

/-! ### The motion monitor (R13) -/

namespace State

variable (s : State) (a : Axis)

/-- The MOTION note of a count arrival, if the axis was STILL (R13, R16). -/
def motionReport (dir : CountDir) : Option Report :=
  if (s.axis a).motion = .still then
    some ⟨.motion, .axis a, none, a, ((s.countMoved a dir).axis a).position, s.tick, (s.axis a).epoch, .none⟩
  else none

/-- The part at a count arrival with the motion monitor moved on, before anything is reported. -/
def monitored (dir : CountDir) : State := (s.countMoved a dir).setAxis a ((s.countMoved a dir).axis a).monitorCount

theorem countMoved_motionNote (dir : CountDir) : (s.countMoved a dir).motionNote a = s.motionReport a dir := by
  have htick : (s.countMoved a dir).tick = s.tick := rfl
  simp only [motionNote, motionReport, axisReport, countMoved_axis_self, htick]

theorem countArrival_eq (dir : CountDir) (makers : Makers) :
    s.countArrival a dir makers = (s.monitored a dir).shareEvent a makers false (s.motionReport a dir) := by
  rw [← countMoved_motionNote]
  rfl

theorem countArrival_axisFirst (dir : CountDir) :
    s.countArrival a dir .axisFirst = (s.monitored a dir).routeIn .axisFirst .axis (s.motionReport a dir) := by
  rw [countArrival_eq, shareEvent_axisFirst]

theorem countArrival_axis_monitored (dir : CountDir) (makers : Makers) :
    (s.countArrival a dir makers).axis a = ((s.countMoved a dir).axis a).monitorCount := by
  simp [countArrival_eq, monitored]

theorem monitorCount_position (u : AxisUnit) : u.monitorCount.position = u.position := by
  rw [monitorCount_eq]

theorem monitored_notes (dir : CountDir) : (s.monitored a dir).notes = s.notes := rfl

theorem monitored_subscribed (dir : CountDir) (p : Port) (i : Nat) :
    (s.monitored a dir).subscribed p a i = s.subscribed p a i := by
  simp [monitored, countMoved, subscribed]

/-- In OFF and in MOVING a count arrival makes no note (R13). -/
theorem countArrival_sameNotes (dir : CountDir) (h : (s.axis a).motion ≠ .still) :
    SameNotes s (s.countArrival a dir .axisFirst) := by
  have hnone : s.motionReport a dir = none := if_neg h
  rw [countArrival_axisFirst, hnone]
  rfl

/-- In STILL it makes a MOTION note for the subscribers (R13, R141). -/
theorem countArrival_note_of_still (dir : CountDir) (h : (s.axis a).motion = .still) (p : Port) :
    (s.countArrival a dir .axisFirst).note p =
      if s.subscribed p a 0 = true then
        (s.note p).take ⟨.motion, .axis a, none, a, ((s.countArrival a dir .axisFirst).axis a).position, s.tick,
          (s.axis a).epoch, .none⟩
      else s.note p := by
  have hsome : s.motionReport a dir = some ⟨.motion, .axis a, none, a, ((s.countMoved a dir).axis a).position, s.tick,
    (s.axis a).epoch, .none⟩ := if_pos h
  rw [countArrival_axis_monitored, monitorCount_position, countArrival_axisFirst, hsome, routeIn_axisFirst, route_note,
    hears_eq_subscribed _ p a .motion 0 rfl, monitored_subscribed]
  rfl

/-- A stall-timer expiry in its time: STILL, and a STILL note for the subscribers (R13). -/
def stilled : State :=
  (s.setAxis a { s.axis a with motion := .still, stallTimer := .stopped }).route (s.axisReport a .still)

theorem stilled_note (p : Port) : (s.stilled a).note p =
    if s.subscribed p a 1 = true then
      (s.note p).take ⟨.still, .axis a, none, a, (s.axis a).position, s.tick, (s.axis a).epoch, .none⟩
    else s.note p := by
  rw [stilled, route_note]
  exact if_congr (Bool.eq_iff_iff.mp (hears_eq_subscribed _ p a .still 1 rfl)) rfl rfl

end State

/-- Settles O12: the monitor at a count arrival (`State.countArrival_axis_self`), its note by the order of makers
(`State.countArrival_eq`), and the expiry. -/
theorem motionMonitorFollowsItsTable : Obligations.MotionMonitorFollowsItsTable := by
  refine ⟨fun s a dir => ⟨fun h => ?_, fun h => ?_, fun h => ?_, fun makers => ?_⟩, ?_,
    fun s a hdue => ⟨s.stilled a, congrArg _ (if_pos hdue), ?_, fun b hb => ?_, s.stilled_note a, ?_⟩⟩
  · refine ⟨?_, ?_, s.countArrival_sameNotes a dir (by simp [h])⟩ <;> simp [State.countArrival_axis_self, h]
  · refine ⟨?_, ?_, s.countArrival_sameNotes a dir (by simp [h])⟩ <;> simp [State.countArrival_axis_self, h]
  · refine ⟨?_, ?_, s.countArrival_note_of_still a dir h⟩ <;> simp [State.countArrival_axis_self, h]
  · rw [State.countArrival_axis_monitored, State.countArrival_axis_monitored]
  · intro s moved early a dir makers note hnote hmoved hearly
    rw [State.countArrival_axis_monitored, State.monitorCount_position] at hnote ⊢
    rw [State.countArrival_axis_monitored] at hmoved
    have hnote' : note = s.motionReport a dir := hnote
    have hmoved' : moved = s.monitored a dir := hmoved
    subst hnote' hmoved' hearly
    have hinbox : (s.monitored a dir).inbox a = (s.countMoved a dir).inbox a := rfl
    refine ⟨hinbox.trans (s.countMoved_inbox_self a dir), rfl, rfl, rfl, rfl, fun hmakers => ?_, fun hmakers => ?_⟩
    · subst hmakers
      exact s.countArrival_axisFirst a dir
    · rw [State.countArrival_eq, State.shareEvent_taken _ _ _ _ _ (.inr hmakers)]
  · simp [State.stilled]
  · simp [State.stilled, State.setAxis_axis_ne _ _ _ hb]
  · simp [State.stilled, SameTime, SameTable, SameLines, SameViews, SameSessions, SameRights, SameLinks, SameArbiter]

/-! ### References (R30 to R33) -/

namespace State

variable (s : State) (a : Axis) (reason : Reason) (v : Word)

/-- What a reference does to axes, rights and contexts, whatever is shared out behind it. -/
theorem referenceShared (makers : Makers) (now : Bool) (note : Option Report) {t : State}
    (ht : t = (s.referenceMoved a reason v).shareEvent a makers now note) :
    t.axis a = { s.axis a with position := v, revolution := 0, epoch := (s.axis a).epoch + 1, doubt := false } ∧
      (∀ b, b ≠ a → t.axis b = s.axis b) ∧ SameRights s t ∧
      (∀ p, (t.view p).contexts[a] = { (s.view p).contexts[a] with rerefSince := true }) ∧
      (∀ p, ∀ b : Axis, b ≠ a → (t.view p).contexts[b] = (s.view p).contexts[b]) := by
  subst ht
  refine ⟨by simp, fun b hb => ?_, by simp [SameRights], fun p => by simp, fun p b hb => ?_⟩
  · rw [shareEvent_axis, referenceMoved_axis_ne _ _ _ _ _ hb]
  · have hne : a.val ≠ b.val := fun hval => hb (Fin.ext hval.symm)
    simp [hne]

/-- An edge's reference with every unit hearing the axis first: the record waits, and the subscribers have the note. -/
theorem edgeReference_axisFirst : s.edgeReference a reason v .axisFirst =
    (s.referenceMoved a reason v).route (s.rerefReport a reason v) := by
  rw [edgeReference, shareEvent_axisFirst, routeIn_axisFirst]

end State

/-- Settles O15: the axis, the contexts and the record of `State.referenceMoved`, and the note by the order of makers
(`State.shareEvent_taken`). -/
theorem referenceMovesTheAxis : Obligations.ReferenceMovesTheAxis := by
  intro s a reason v makers
  refine ⟨fun t ht => ?_, ?_, fun p => ?_, fun moved early note hnote hmoved hearly => ?_⟩
  · obtain ht | ht := ht <;> exact s.referenceShared a reason v makers _ _ ht
  · rw [State.edgeReference_axisFirst, State.route_inbox]
    exact s.referenceMoved_inbox_self a reason v
  · rw [State.edgeReference_axisFirst, State.route_note, State.referenceMoved_note]
    refine if_congr (Bool.eq_iff_iff.mp ((State.hears_eq_subscribed _ p a .reref 2 rfl).trans ?_)) rfl rfl
    simp [State.subscribed]
  · have hnote' : note = s.rerefReport a reason v := hnote
    subst hnote' hmoved hearly
    refine ⟨s.referenceMoved_inbox_self a reason v, rfl, rfl, rfl, rfl, fun hmakers => ?_, fun hmakers => ?_, ?_⟩
    · subst hmakers
      rw [State.edgeReference, State.shareEvent_axisFirst]
    · rw [State.edgeReference, State.shareEvent_taken _ _ _ _ _ (.inr hmakers)]
    · rw [State.commandReference, State.shareEvent_taken _ _ _ _ _ (.inl rfl)]

end Sys2Proof.Machine

/-!
PROOF. The checks of AXIS_SET (O17), the checks that come first (O20), LINE_DRIVE and LINE_READ (O34) and SNAP (O37).
-/

namespace Sys2Proof.Machine

/-! ### The checks of AXIS_SET (R18) -/

theorem DecodeMode.ofCode_eq_none_iff {n : Nat} : DecodeMode.ofCode n = none ↔ 1 < n := by
  match n with
  | 0 | 1 | n + 2 => simp [DecodeMode.ofCode]

theorem Edge.ofCode_eq_none_iff {n : Nat} : Edge.ofCode n = none ↔ 1 < n := by
  match n with
  | 0 | 1 | n + 2 => simp [Edge.ofCode]

theorem DecodeMode.code_of_ofCode {n : Nat} {m : DecodeMode} (h : DecodeMode.ofCode n = some m) : m.code.toNat = n := by
  match n with
  | 0 | 1 => cases h; rfl
  | n + 2 => cases h

theorem yesNo_of_yesNoOf {n : Nat} {b : Bool} (h : yesNoOf n = some b) : (yesNo b).toNat = n := by
  match n with
  | 0 | 1 => cases h; rfl
  | n + 2 => cases h

/-- A code without a meaning is what refuses a configuration (R18, check 1). -/
theorem configOf_eq_none_iff {ps : List Byte} : configOf ps = none ↔
    1 < paramNat ps 1 ∨ 1 < paramNat ps 2 ∨ 1 < paramNat ps 14 ∨ 1 < paramNat ps 15 := by
  rw [← DecodeMode.ofCode_eq_none_iff, ← yesNoOf_eq_none_iff, ← Edge.ofCode_eq_none_iff, ← Edge.ofCode_eq_none_iff]
  unfold configOf
  cases DecodeMode.ofCode (paramNat ps 1) <;> cases yesNoOf (paramNat ps 2) <;>
    cases Edge.ofCode (paramNat ps 14) <;> cases Edge.ofCode (paramNat ps 15) <;> simp

/-- The fields of a configuration whose codes have a meaning, as the parameters give them. -/
theorem configOf_some {ps : List Byte} {c : AxisConfig} (h : configOf ps = some c) :
    c.mode.code.toNat = paramNat ps 1 ∧ (yesNo c.reverse).toNat = paramNat ps 2 ∧ c.filterLen = paramNat ps 3 ∧
      c.modulus = (paramWord ps 4).toNat ∧ c.preset = paramWord ps 10 := by
  unfold configOf at h
  split at h
  next mode reverse indexEdge homeEdge hmode hreverse _ _ =>
    cases h
    exact ⟨DecodeMode.code_of_ofCode hmode, yesNo_of_yesNoOf hreverse, rfl, rfl, rfl⟩
  next => cases h

/-- The range check of R18 in the terms of the parameters. -/
theorem AxisConfig.inRange_eq_false_iff {ps : List Byte} {c : AxisConfig} (h : configOf ps = some c) :
    c.inRange = false ↔ paramNat ps 3 = 0 ∨ 32 < paramNat ps 3 ∨ paramWord ps 4 = 1 ∨
      2147483647 < (paramWord ps 4).toNat ∨
      (paramWord ps 4 ≠ 0 ∧ ((paramWord ps 10).toInt < 0 ∨ (paramWord ps 4).toNat ≤ (paramWord ps 10).toInt)) := by
  obtain ⟨-, -, hF, hM, hP⟩ := configOf_some h
  have hone : paramWord ps 4 = 1 ↔ (paramWord ps 4).toNat = 1 := BitVec.toNat_eq
  have hzero : paramWord ps 4 = 0 ↔ (paramWord ps 4).toNat = 0 := BitVec.toNat_eq
  simp only [AxisConfig.inRange, Machine.inRange, hF, hM, hP, Config.maxFilterLen, Config.maxModulus,
    decide_eq_false_iff_not, decide_eq_true_eq, hone, ne_eq, hzero]
  omega

/-- A configuration that changes mode, reverse or modulus (R18, check 3). -/
theorem AxisConfig.recountsFrom_iff {ps : List Byte} {c old : AxisConfig} (h : configOf ps = some c) :
    c.recountsFrom old = true ↔ paramNat ps 1 ≠ old.mode.code.toNat ∨ paramNat ps 2 ≠ (yesNo old.reverse).toNat ∨
      (paramWord ps 4).toNat ≠ old.modulus := by
  obtain ⟨hmode, hreverse, -, hM, -⟩ := configOf_some h
  have hm : c.mode.code.toNat = old.mode.code.toNat ↔ c.mode = old.mode := by
    cases c.mode <;> cases old.mode <;> decide
  have hr : (yesNo c.reverse).toNat = (yesNo old.reverse).toNat ↔ c.reverse = old.reverse := by
    cases c.reverse <;> cases old.reverse <;> decide
  rw [← hmode, ← hreverse, ← hM]
  simp [AxisConfig.recountsFrom, hm, hr]

/-- Settles O17: the body of AXIS_SET by its three checks in the order of R18. -/
theorem axisSetRefusesInOrder : Obligations.AxisSetRefusesInOrder := by
  intro p s req a badCode outOfRange hrun ha hown hbad hout
  subst hbad hout
  rw [← configOf_eq_none_iff]
  have hbody : axisSetBody p req.params s = match configOf req.params with
      | none => .refuse .badArg
      | some cfg =>
        if cfg.inRange = false then .refuse .range
        else if cfg.recountsFrom (s.axis a).config ∧ s.armList a ≠ [] then .refuse .inUse
        else .ok (s.configureAxis a cfg) [] :=
    State.withAxis_of_owner ha hown
  cases hcfg : configOf req.params with
  | none =>
    rw [hcfg] at hbody
    exact ⟨fun _ => congrArg _ (State.runCommand_refuse hrun hbody), fun h => absurd rfl h, fun h => absurd rfl h⟩
  | some c =>
    rw [hcfg] at hbody
    rw [← AxisConfig.inRange_eq_false_iff hcfg, ← AxisConfig.recountsFrom_iff hcfg]
    refine ⟨nofun, fun _ hrange => ?_, fun _ hrange hchange hlist => ?_⟩
    · exact congrArg _ (State.runCommand_refuse hrun (hbody.trans (if_pos hrange)))
    · exact congrArg _ (State.runCommand_refuse hrun
        (hbody.trans ((if_neg hrange).trans (if_pos ⟨hchange, hlist⟩))))

/-! ### Number and owner first (R17, R53, R95) -/

section

variable {p : Port} {s : State} {n : Nat}

theorem State.withAxis_range {changes : Bool} {k : Axis → Reply} (h : 3 < n) :
    s.withAxis p n changes k = .refuse .range := by
  rw [State.withAxis, below_of_le h]

theorem State.withAxis_notClaimed {a : Axis} {k : Axis → Reply} (hn : n = a.val) (h : s.axisRight a ≠ some p) :
    s.withAxis p n true k = .refuse .notClaimed := by
  simp [State.withAxis, hn, h]

theorem State.withSlot_range {k : SlotNo → Trigger → Reply} (h : 95 < n) : s.withSlot p n k = .refuse .range := by
  rw [State.withSlot, below_of_le h]

theorem State.withSlot_notOwner {m : SlotNo} {k : SlotNo → Trigger → Reply} (hn : n = m.val)
    (h : ∀ t, s.slot m = some t → t.owner ≠ p) : s.withSlot p n k = .refuse .notOwner := by
  rw [State.withSlot, hn, below_val]
  cases hslot : s.slot m with
  | none => simp only [hslot]
  | some t => simp only [hslot, if_neg (h t hslot)]

theorem withLine_range {k : LineNo → Reply} (h : 7 < n) : withLine n k = .refuse .range := by
  rw [withLine, below_of_le h]

end

/-- Settles O20: the bodies of each group begin with one and the same check. -/
theorem numberAndOwnerChecksComeFirst : Obligations.NumberAndOwnerChecksComeFirst := by
  intro c p makers s req hrun
  refine ⟨fun hc => ⟨fun hn => ?_, fun a hn hread hright => ?_⟩, fun hc => ⟨fun hn => ?_, fun n hn hslot => ?_⟩,
    fun hc hn => ?_⟩ <;> simp only [List.mem_cons, List.not_mem_nil, or_false] at hc
  · obtain rfl | rfl | rfl | rfl | rfl := hc <;>
      exact congrArg _ (State.runCommand_refuse hrun (State.withAxis_range hn))
  · obtain rfl | rfl | rfl | rfl | rfl := hc
    case inr.inr.inl => exact absurd rfl hread
    all_goals exact congrArg _ (State.runCommand_refuse hrun (State.withAxis_notClaimed hn hright))
  · obtain rfl | rfl | rfl | rfl := hc <;>
      exact congrArg _ (State.runCommand_refuse hrun (State.withSlot_range hn))
  · obtain rfl | rfl | rfl | rfl := hc <;>
      exact congrArg _ (State.runCommand_refuse hrun (State.withSlot_notOwner hn hslot))
  · obtain rfl | rfl | rfl | rfl := hc <;>
      exact congrArg _ (State.runCommand_refuse hrun (withLine_range hn))

/-! ### LINE_DRIVE and LINE_READ (R99, R107) -/

theorem LineState.code_eq (x : LineState) : x.code = if x = .active then 1 else 0 := by
  cases x <;> rfl

section

variable {p : Port} {s : State} {l : LineNo} {act : Byte} {width : Half}

/-- LINE_DRIVE by the owner and the action its codes name. -/
theorem lineDriveBody_eq : lineDriveBody p ([byteOf l.val, act] ++ le16 width) s =
    if (s.line l).owner ≠ some p then .refuse .notClaimed
    else
      match LineAction.ofCode act.toNat width.toNat with
      | none => .refuse .badArg
      | some x => .ok (s.setLine l ((s.line l).act x))
          ([((s.line l).act x).state.code] ++ le16 (BitVec.ofNat 16 ((s.line l).act x).timer.remaining)) := by
  have hact : paramNat ([byteOf l.val, act] ++ le16 width) 1 = act.toNat := rfl
  have hwidth : paramHalf ([byteOf l.val, act] ++ le16 width) 2 = width := half_of_bytes width
  refine (withLine_of_line l _ _).trans ?_
  rw [hact, hwidth]
  rfl

theorem lineDriveBody_of_action {x : LineAction} (howner : (s.line l).owner = some p)
    (hx : LineAction.ofCode act.toNat width.toNat = some x) : lineDriveBody p ([byteOf l.val, act] ++ le16 width) s =
      .ok (s.setLine l ((s.line l).act x))
        ([((s.line l).act x).state.code] ++ le16 (BitVec.ofNat 16 ((s.line l).act x).timer.remaining)) := by
  rw [lineDriveBody_eq, if_neg (not_not.mpr howner), hx]

end

/-- Set, clear and toggle stop the timer, so nothing remains of it. -/
theorem LineRec.remaining_of_level {x : LineAction} (h : x ∈ [LineAction.set, .clear, .toggle]) (r : LineRec) :
    (r.act x).timer.remaining = 0 := by
  simp only [List.mem_cons, List.not_mem_nil, or_false] at h
  obtain rfl | rfl | rfl := h <;> rfl

/-- Settles O34: LINE_DRIVE by the action its codes name, LINE_READ by the record. -/
theorem lineDriveAndRead : Obligations.LineDriveAndRead := by
  refine fun p s req l => ⟨fun act width hrun hps => ⟨fun howner => ?_, fun howner => ⟨fun hbad => ?_, fun x hx => ?_,
    fun hact hwidth => ?_⟩⟩, fun hrun hps => ?_⟩
  · refine congrArg _ (State.runCommand_refuse hrun ?_)
    rw [hps, lineDriveBody_eq, if_pos howner]
  · have hnone : LineAction.ofCode act.toNat width.toNat = none := by
      rw [LineAction.ofCode_eq_none_iff]
      simpa [BitVec.toNat_eq] using hbad
    refine congrArg _ (State.runCommand_refuse hrun ?_)
    rw [hps, lineDriveBody_eq, if_neg (not_not.mpr howner), hnone]
  · have hlevel : LineAction.ofCode act.toNat width.toNat = some x ∧ x ∈ [LineAction.set, .clear, .toggle] := by
      simp only [List.mem_cons, Prod.mk.injEq, List.not_mem_nil, or_false] at hx
      obtain ⟨rfl, rfl, rfl⟩ | ⟨rfl, rfl, rfl⟩ | ⟨rfl, rfl, rfl⟩ := hx <;> exact ⟨rfl, by simp⟩
    obtain ⟨hcode, hmem⟩ := hlevel
    refine congrArg _ (State.runCommand_ok hrun ?_)
    rw [hps, lineDriveBody_of_action howner hcode, LineRec.remaining_of_level hmem, LineState.code_eq]
    rfl
  · subst hact
    have hone : 1 ≤ width.toNat := Nat.one_le_iff_ne_zero.mpr fun h => hwidth (BitVec.eq_of_toNat_eq h)
    have hcode : LineAction.ofCode (4 : Byte).toNat width.toNat = some (.pulse width.toNat) :=
      if_neg (Nat.ne_of_gt hone)
    refine congrArg _ (State.runCommand_ok hrun ?_)
    rw [hps, lineDriveBody_of_action howner hcode, LineRec.act_pulse hone]
    simp [Timer.remaining, LineState.code]
  · refine congrArg _ (State.runCommand_ok hrun ?_)
    rw [hps]
    refine (withLine_of_line l [] _).trans ?_
    rw [LineRec.record]
    cases (s.line l).timer <;> rfl

/-! ### SNAP (R135, R136, R185) -/

/-- The axes a mask names come in axis order, and they are those whose bits it holds. -/
theorem axesOfMask_pairwise (m : Nat) : (axesOfMask m).Pairwise (· < ·) := by
  have hall : allAxes.Pairwise (· < ·) := by decide
  exact hall.sublist List.filter_sublist

theorem mem_axesOfMask {m : Nat} {a : Axis} : a ∈ axesOfMask m ↔ m.testBit a.val = true := by
  have hall : ∀ a : Axis, a ∈ allAxes := by decide
  simp [axesOfMask, hall]

theorem snapBits_eq (c : Context) (doubt : Bool) : snapBits c doubt =
    (if c.sat then 1 else 0) + (if c.rerefSince then 2 else 0) + (if c.doubtSeen then 4 else 0) +
      (if doubt then 8 else 0) := by
  unfold snapBits
  cases c.sat <;> cases c.rerefSince <;> cases c.doubtSeen <;> cases doubt <;> rfl

/-- Settles O37: the checks of SNAP, then one axis step by the axes still to come. -/
theorem snapRunsByAxisSteps : Obligations.SnapRunsByAxisSteps := by
  refine ⟨fun p s req mask hrun hps => ?_, ?_⟩
  · obtain ⟨hdue, hcheck⟩ := hrun
    have hmask : paramNat req.params 0 = mask.toNat := by
      rw [hps]
      rfl
    have hzero : mask = 0 ↔ mask.toNat = 0 := BitVec.toNat_eq
    refine ⟨fun hout => ?_, fun hlow hhigh => ⟨axesOfMask mask.toNat, axesOfMask_pairwise _, fun a => mem_axesOfMask, ?_⟩⟩
    · have hbad : mask.toNat = 0 ∨ 15 < mask.toNat := by rwa [hzero] at hout
      refine congrArg Host.Outcome.next ?_
      simp only [hdue, hcheck, hmask, if_pos hbad]
    · have hgood : ¬(mask.toNat = 0 ∨ 15 < mask.toNat) := by omega
      refine congrArg Host.Outcome.next ?_
      simp only [hdue, hcheck, hmask, if_neg hgood]
  · intro p s req a rest flags records flags' records' c s' hflight hc hflags hrecords hs'
    subst hc
    rw [← snapBits_eq] at hflags
    subst hflags hrecords hs'
    simp only [exec, execSnapAxisStep, hflight]
    cases rest with
    | nil => rfl
    | cons b rest => rfl

end Sys2Proof.Machine

/-!
PROOF. The beginning of a purge (O40), the start and the end of a command (O47), and the commands that only read (O50).
-/

namespace Sys2Proof.Machine

/-! ### The beginning of a purge (R152, R155, R177) -/

namespace State

variable {s : State} {p : Port}

/-- A SNAP or a CLOSE that runs (R177). -/
theorem running_iff : s.running p = true ↔
    (∃ req run, (s.link p).flight = some ⟨req, .snapping run⟩) ∨ ∃ req, (s.link p).flight = some ⟨req, .closing⟩ := by
  unfold running
  rcases (s.link p).flight with _ | ⟨req, _ | _ | run | _⟩ <;> simp

/-- The part after a keepalive expiry taken in its time: the command dropped, the purge begun (R155, R177). -/
def expired (p : Port) (s : State) : State := (s.dropWaiting p).setSession p (((s.dropWaiting p).session p).beginPurge true)

theorem exec_keepaliveExpiry (htimer : (s.session p).timer = .due) (hrunning : s.running p = false) :
    exec (.keepaliveExpiry p) s = .next (s.expired p) := by
  have hdue : s.keepaliveDue p = true := by simp [keepaliveDue, htimer, hrunning]
  exact congrArg _ (if_pos hdue)

theorem dropWaiting_of_none (h : (s.link p).flight = none) : s.dropWaiting p = s := by
  simp [dropWaiting, h]

theorem dropWaiting_of_some {f : Flight} (h : (s.link p).flight = some f) :
    s.dropWaiting p = (s.setLink p (s.link p).drop).leaveArbiter p := by
  simp [dropWaiting, h]

/-- Dropping a command touches the port's link unit and the arbiter alone. -/
theorem dropWaiting_sameBlocks (s : State) (p : Port) :
    SameBlocks s (s.dropWaiting p) ∧ SameOtherLinks p s (s.dropWaiting p) := by
  cases hf : (s.link p).flight with
  | none =>
    rw [dropWaiting_of_none hf]
    exact ⟨by simp [SameBlocks, SameTime, SameAxes, SameTable, SameLines, SameNotes, SameViews, SameSessions, SameRights],
      fun _ _ => rfl⟩
  | some f =>
    rw [dropWaiting_of_some hf]
    refine ⟨by simp [SameBlocks, SameTime, SameAxes, SameTable, SameLines, SameNotes, SameViews, SameSessions, SameRights],
      fun q hq => ?_⟩
    rw [leaveArbiter_link, setLink_link_ne _ _ _ hq]

/-- A port whose command has been dropped neither waits nor holds the grant: the arbiter's laws say so (R177, R179). -/
theorem dropWaiting_of_flight (hs : s.ArbiterOk) {f : Flight} (hf : (s.link p).flight = some f)
    (hrunning : s.running p = false) : (s.dropWaiting p).link p = (s.link p).drop ∧
      (s.dropWaiting p).waiting.get p = false ∧ (s.dropWaiting p).grant ≠ some p ∧
      (s.dropWaiting p).lastServed = s.lastServed := by
  rw [dropWaiting_of_some hf]
  have hok := hs.dropCommand (by simp [hf]) hrunning
  have hlink : ((s.setLink p (s.link p).drop).leaveArbiter p).link p = (s.link p).drop := by simp
  have hnone : (((s.setLink p (s.link p).drop).leaveArbiter p).link p).flight = none := by
    rw [hlink]
    rfl
  refine ⟨hlink, ?_, fun hgrant => ?_, by simp⟩
  · rw [← Bool.not_eq_true]
    exact fun hwaits => not_atArbiter_of_none hnone (hok.waits p hwaits).1
  · exact (hok.holds p hgrant).elim (not_atArbiter_of_none hnone) (not_closing_of_none hnone)

end State

/-- Settles O40: CLOSE past its common checks, and an expiry by whether a command of the port runs. -/
theorem closeAndExpiryBeginThePurge : Obligations.CloseAndExpiryBeginThePurge := by
  refine ⟨fun p s req hrun => ?_, fun p s hs htimer hsnap hclose => ⟨s.expired p, ?_⟩, fun p s hrun => ?_⟩
  · obtain ⟨hdue, hcheck⟩ := hrun
    refine congrArg Host.Outcome.next ?_
    simp only [hdue, hcheck]
    rfl
  · have hrunning : s.running p = false := by
      rw [← Bool.not_eq_true, State.running_iff]
      rintro (⟨req, run, hf⟩ | ⟨req, hf⟩)
      · exact hsnap req run hf
      · exact hclose req hf
    obtain ⟨⟨htime, haxes, htable, hlines, hnotes, hviews, ⟨hsessions, hunreserved⟩, hrights⟩, hother⟩ :=
      s.dropWaiting_sameBlocks p
    have hsession : ∀ q, (s.dropWaiting p).session q = s.session q := fun q => congrArg (·.get q) hsessions
    refine ⟨State.exec_keepaliveExpiry htimer hrunning, ?_, fun q hq => ⟨?_, hother q hq⟩, fun hf => ?_, fun hf => ?_,
      hunreserved, htime, haxes, htable, hlines, hnotes, hviews, hrights⟩
    · rw [State.expired, State.setSession_session_self, hsession]
      rfl
    · rw [State.expired, State.setSession_session_ne _ _ _ hq, hsession]
    · rw [State.expired, State.dropWaiting_of_none hf]
      exact ⟨rfl, rfl, rfl, rfl⟩
    · obtain ⟨f, hf⟩ := Option.ne_none_iff_exists'.mp hf
      exact State.dropWaiting_of_flight hs hf hrunning
  · have hnot : ¬s.keepaliveDue p = true := by simp [State.keepaliveDue, State.running_iff.mpr hrun]
    exact congrArg _ (if_neg hnot)

/-! ### The arbiter's choice (R179) -/

namespace State

variable {s : State}

theorem arbitrate_of_held (h : s.grant ≠ none) : s.arbitrate = s := by
  obtain ⟨p, hp⟩ := Option.ne_none_iff_exists'.mp h
  simp [arbitrate, hp]

theorem arbitrate_of_noneWaits (hgrant : s.grant = none) (hwaits : ∀ q, s.waiting.get q = false) : s.arbitrate = s := by
  have hnone : (cycleAfter s.lastServed).find? (fun p => s.waiting.get p) = none :=
    List.find?_eq_none.mpr fun q _ => by simp [hwaits]
  simp [arbitrate, hgrant, hnone]

/-- The free grant goes to the first port that waits, in the cycle after the last served one. -/
theorem arbitrate_of_first {l₁ l₂ : List Port} {q : Port} (hgrant : s.grant = none)
    (hcycle : cycleAfter s.lastServed = l₁ ++ q :: l₂) (hq : s.waiting.get q = true)
    (hbefore : ∀ x ∈ l₁, s.waiting.get x = false) :
    s.arbitrate = { s with grant := some q, waiting := s.waiting.set q false } := by
  have hnone : l₁.find? (fun x => s.waiting.get x) = none := by simpa using hbefore
  simp [arbitrate, hgrant, hcycle, List.find?_append, hnone, hq]

theorem nodup_cycleAfter (p : Port) : (cycleAfter p).Nodup := by
  cases p <;> decide

/-- The only port that waits has the free grant at once. -/
theorem joinArbiter_of_idle (p : Port) (hgrant : s.grant = none) (hwaits : ∀ q, s.waiting.get q = false) :
    s.joinArbiter p = { s with grant := some p } := by
  obtain ⟨l₁, l₂, hcycle⟩ := List.append_of_mem (mem_cycleAfter s.lastServed p)
  have hnot : ∀ x ∈ l₁, x ≠ p := fun x hx heq => by
    have hnodup := nodup_cycleAfter s.lastServed
    rw [hcycle, List.nodup_append] at hnodup
    obtain ⟨-, -, hdisjoint⟩ := hnodup
    exact hdisjoint x hx p List.mem_cons_self heq
  have hback : (s.waiting.set p true).set p false = s.waiting := by
    rw [PerPort.set_set, ← hwaits p, PerPort.set_get]
  rw [joinArbiter, arbitrate_of_first (s := { s with waiting := s.waiting.set p true }) hgrant hcycle
    (PerPort.get_set_self _ _ _) fun x hx => by rw [PerPort.get_set_ne _ _ (hnot x hx), hwaits]]
  exact congrArg (fun w => ({ s with grant := some p, waiting := w } : State)) hback

/-! ### The last step of a command (R175) -/

variable (s) (p : Port) (req : Request) (r : Result) (data : List Byte)

theorem complete_link_self : (s.complete p req r data).link p = (s.link p).finish req r data := by
  simp [complete]

theorem complete_sameOtherLinks : SameOtherLinks p s (s.complete p req r data) := fun q hq => by
  rw [complete, freeGrant_link, setLink_link_ne _ _ _ hq]

theorem complete_sameBlocks : SameBlocks s (s.complete p req r data) := by
  simp [SameBlocks, SameTime, SameAxes, SameTable, SameLines, SameNotes, SameViews, SameSessions, SameRights]

variable {s p}

theorem complete_of_notGranted (h : s.grant ≠ some p) :
    s.complete p req r data = s.setLink p ((s.link p).finish req r data) :=
  if_neg h

/-- The part with port `p`'s command answered and the grant free, before the arbiter chooses again. -/
def answered (p : Port) (req : Request) (r : Result) (data : List Byte) (s : State) : State :=
  { s.setLink p ((s.link p).finish req r data) with grant := none, lastServed := p }

theorem complete_of_granted (h : s.grant = some p) :
    s.complete p req r data = (s.answered p req r data).arbitrate :=
  if_pos h

/-! ### The start of a command (R173) -/

theorem startOnWay_of_unknown (h : req.command = none) : s.startOnWay p req = s.complete p req .unknown [] := by
  simp [startOnWay, h]

theorem startOnWay_of_command {c : Cmd} (h : req.command = some c) : s.startOnWay p req =
    if c.atArbiter = true then (s.setLink p { s.link p with flight := some ⟨req, .started⟩ }).joinArbiter p
    else s.setLink p { s.link p with flight := some ⟨req, .started⟩ } := by
  simp [startOnWay, h]

end State

/-- The commands that run without the arbiter (R179). -/
theorem Cmd.atArbiter_eq_false_iff (c : Cmd) :
    c.atArbiter = false ↔ c ∈ [Cmd.nop, .noteRead, .noteAck, .snap, .subscribe] := by
  cases c <;> decide

/-- Settles O47: the link unit by the discard mark, the arbiter by who waits (`State.arbitrate_of_first`), and the start
by whether the command goes through the arbiter. -/
theorem commandsStartAndEnd : Obligations.CommandsStartAndEnd := by
  refine ⟨fun p s req result data => ⟨fun hd => ?_, fun hd => ?_, s.complete_sameOtherLinks p req result data,
    s.complete_sameBlocks p req result data, fun hgrant => ?_, fun hgrant => ⟨?_, fun hwaits => ?_,
      fun l₁ q l₂ hcycle hq hbefore => ?_⟩⟩, fun p s s' req hs' => ⟨fun hnone => State.startOnWay_of_unknown req hnone,
      fun c hc => ⟨fun hfree => ?_, fun hat => ?_⟩⟩⟩
  · rw [State.complete_link_self, Link.finish, if_neg (by simp [hd])]
  · rw [State.complete_link_self, Link.finish, if_pos hd]
  · rw [State.complete_of_notGranted req result data hgrant]
    exact ⟨rfl, rfl, rfl⟩
  · rw [State.complete_of_granted req result data hgrant, State.arbitrate_lastServed]
    rfl
  · have hidle := State.arbitrate_of_noneWaits (s := s.answered p req result data) rfl hwaits
    rw [State.complete_of_granted req result data hgrant, hidle]
    exact ⟨rfl, hwaits⟩
  · have hcycle' : cycleAfter p = l₁ ++ q :: l₂ := by
      rw [← hcycle]
      cases p <;> rfl
    have hchosen := State.arbitrate_of_first (s := s.answered p req result data) rfl hcycle' hq hbefore
    rw [State.complete_of_granted req result data hgrant, hchosen]
    exact ⟨rfl, fun x => PerPort.get_set _ _ _ _⟩
  · rw [← Cmd.atArbiter_eq_false_iff] at hfree
    rw [State.startOnWay_of_command req hc, if_neg (by simp [hfree]), hs']
  · rw [← Cmd.atArbiter_eq_false_iff, Bool.not_eq_false] at hat
    rw [State.startOnWay_of_command req hc, if_pos hat, ← hs']
    have hgrant : s'.grant = s.grant := by rw [hs', State.setLink_grant]
    have hwaiting : s'.waiting = s.waiting := by rw [hs', State.setLink_waiting]
    refine ⟨fun hfree hwaits => ?_, fun hheld => ?_⟩
    · exact State.joinArbiter_of_idle p (hgrant.trans hfree) (by rwa [hwaiting])
    · rw [State.joinArbiter, State.arbitrate_of_held (by rwa [hgrant]), hwaiting]

/-! ### Commands that only read -/

section

variable {c : Cmd} {p : Port} {s : State}

/-- A relation the end of a command keeps holds behind a command if its effects keep it. -/
theorem State.runCommand_related {R : State → Prop} {body : List Byte → State → Reply} (hsame : R s)
    (hcomplete : ∀ u req r data, R u → R (u.complete p req r data))
    (hbody : ∀ req s' data, s.Runs c p req → body req.params s = .ok s' data → R s') :
    R (s.runCommand c p body) := by
  obtain h | ⟨req, r, h⟩ | ⟨req, s', data, hrun, hb, h⟩ := s.runCommand_cases c p body
  · rwa [h]
  · rw [h]
    exact hcomplete s req r [] hsame
  · rw [h]
    exact hcomplete s' req .ok data (hbody req s' data hrun hb)

/-- No block differs, and no link unit but port `p`'s. -/
def OnlyLink (p : Port) (s t : State) : Prop := SameBlocks s t ∧ SameOtherLinks p s t

theorem OnlyLink.refl (p : Port) (s : State) : OnlyLink p s s := by
  simp [OnlyLink, SameOtherLinks, SameBlocks, SameTime, SameAxes, SameTable, SameLines, SameNotes, SameViews,
    SameSessions, SameRights]

theorem onlyLink_complete (s : State) (p : Port) (req : Request) (r : Result) (data : List Byte) :
    OnlyLink p s (s.complete p req r data) :=
  ⟨s.complete_sameBlocks p req r data, s.complete_sameOtherLinks p req r data⟩

theorem onlyLink_setLink (s : State) (p : Port) (l : Link) : OnlyLink p s (s.setLink p l) :=
  ⟨by simp [SameBlocks, SameTime, SameAxes, SameTable, SameLines, SameNotes, SameViews, SameSessions, SameRights],
    fun _ hq => s.setLink_link_ne p l hq⟩

/-- A command that changes nothing but its response. -/
theorem onlyLink_runCommand {body : List Byte → State → Reply} (hbody : ∀ ps s' data, body ps s = .ok s' data → s' = s) :
    OnlyLink p s (s.runCommand c p body) := by
  obtain h | ⟨req, r, h⟩ | ⟨req, s', data, -, hb, h⟩ := s.runCommand_cases c p body
  · rw [h]
    exact .refl p s
  · rw [h]
    exact onlyLink_complete s p req r []
  · rw [h, hbody _ _ _ hb]
    exact onlyLink_complete s p req .ok data

theorem onlyLink_snap {t : State} (h : exec (.snap p) s = .next t) : OnlyLink p s t := by
  simp only [exec, execSnap] at h
  split at h
  next =>
    cases h
    exact .refl p s
  next req _ =>
    split at h
    next r _ =>
      cases h
      exact onlyLink_complete s p req r []
    next =>
      split at h
      · cases h
        exact onlyLink_complete s p req _ []
      · cases h
        exact onlyLink_setLink s p _

theorem onlyLink_transactionStart {t : State} (h : exec (.transactionStart p) s = .next t) : OnlyLink p s t := by
  simp only [exec, execTransactionStart] at h
  split at h
  · cases h
    exact .refl p s
  · split at h <;> cases h <;> exact onlyLink_setLink s p _

/-- The end of a transaction that gets no more than a change of the link unit. -/
theorem onlyLink_endTransaction (g : Link → Link) :
    OnlyLink p s (s.endTransaction p fun u => u.setLink p (g (u.link p))) := by
  unfold State.endTransaction
  dsimp only
  split
  · rw [State.setLink_setLink]
    exact onlyLink_setLink s p _
  · exact onlyLink_setLink s p _

end

/-- Settles O50: each of the commands leaves the blocks, and the links of the other ports. -/
theorem readingChangesNoBlock : Obligations.ReadingChangesNoBlock := by
  intro p bits c s t hc h
  change OnlyLink p s t
  simp only [List.mem_cons, List.not_mem_nil, or_false] at hc
  obtain rfl | rfl | rfl | rfl | rfl | rfl | rfl | rfl | rfl | rfl | rfl := hc
  · cases h
    exact onlyLink_runCommand fun _ _ _ hb => by cases hb; rfl
  · cases h
    exact onlyLink_runCommand fun _ _ _ => statusBody_effect
  · cases h
    exact onlyLink_runCommand fun _ _ _ => axisReadBody_effect
  · cases h
    exact onlyLink_runCommand fun _ _ _ => trigReadBody_effect
  · cases h
    exact onlyLink_runCommand fun _ _ _ => trigListBody_effect
  · cases h
    exact onlyLink_runCommand fun _ _ _ => lineReadBody_effect
  · cases h
    exact onlyLink_runCommand fun _ _ _ => noteReadBody_effect
  · exact onlyLink_snap h
  · exact onlyLink_transactionStart h
  · cases h
    split
    · have hid : (id : State → State) = fun u => u.setLink p (id (u.link p)) := by
        funext u
        simp [State.setLink, State.link, PerPort.set_get]
      rw [hid]
      exact onlyLink_endTransaction id
    · exact .refl p s
  · cases h
    split
    · exact onlyLink_endTransaction Link.resynced
    · exact .refl p s

end Sys2Proof.Machine

/-!
PROOF. Each group of commands stays in its blocks (O51).
-/

namespace Sys2Proof.Machine

/-! ### The end of a command stays in the port's link unit -/

theorem sameOtherLinks_complete_iff {p : Port} {s u : State} {req : Request} {r : Result} {data : List Byte} :
    SameOtherLinks p s (u.complete p req r data) ↔ SameOtherLinks p s u := by
  refine forall_congr' fun q => imp_congr_right fun hq => ?_
  rw [u.complete_sameOtherLinks p req r data q hq]

/-! ### What each group may change -/

/-- Port `p` claims or gives back axis rights, and its own alone. -/
def WithinRights (p : Port) (s t : State) : Prop :=
  SameTime s t ∧ SameAxes s t ∧ SameTable s t ∧ SameLines s t ∧ SameNotes s t ∧ SameViews s t ∧ SameSessions s t ∧
    SameOtherLinks p s t ∧ ∀ a q, q ≠ p → (t.axisRight a = some q ↔ s.axisRight a = some q)

/-- Port `p` changes marks of axes: neither their counts nor their configuration. -/
def WithinAxisMarks (p : Port) (s t : State) : Prop :=
  SameTime s t ∧ SameTable s t ∧ SameLines s t ∧ SameNotes s t ∧ SameViews s t ∧ SameSessions s t ∧ SameRights s t ∧
    SameOtherLinks p s t ∧
    ∀ a, (t.axis a).position = (s.axis a).position ∧ (t.axis a).revolution = (s.axis a).revolution ∧
      (t.axis a).epoch = (s.axis a).epoch ∧ (t.axis a).config = (s.axis a).config

/-- Port `p` configures an axis or takes a reference on it. -/
def WithinReference (p : Port) (s t : State) : Prop :=
  SameTime s t ∧ t.pins = s.pins ∧ SameSessions s t ∧ SameRights s t ∧ SameOtherLinks p s t ∧
    ∀ q, (t.view q).masks = (s.view q).masks

/-- Port `p` works on its slots in the trigger table. -/
def WithinTable (p : Port) (s t : State) : Prop :=
  SameTime s t ∧ SameAxes s t ∧ SameLines s t ∧ SameNotes s t ∧ SameViews s t ∧ SameSessions s t ∧ SameRights s t ∧
    SameOtherLinks p s t ∧ t.tableEpoch = s.tableEpoch ∧ t.tableIn = s.tableIn ∧
    (∀ n u, s.slot n = some u → u.owner ≠ p → t.slot n = some u) ∧ ∀ q, q ≠ p → t.heldBy q = s.heldBy q

/-- Port `p` works on its lines. -/
def WithinLines (p : Port) (s t : State) : Prop :=
  SameTime s t ∧ SameAxes s t ∧ SameTable s t ∧ SameNotes s t ∧ SameViews s t ∧ SameSessions s t ∧ SameRights s t ∧
    SameOtherLinks p s t ∧ ∀ l q, q ≠ p → (s.line l).owner = some q → t.line l = s.line l

/-- Port `p` works on its notification unit, and the table hears of it. -/
def WithinNotes (p : Port) (s t : State) : Prop :=
  SameTime s t ∧ SameAxes s t ∧ SameLines s t ∧ SameViews s t ∧ SameSessions s t ∧ SameRights s t ∧
    SameOtherLinks p s t ∧ t.armLists = s.armLists ∧ t.tableEpoch = s.tableEpoch ∧ t.tableIn = s.tableIn ∧
    ∀ q, q ≠ p → t.note q = s.note q

/-- Port `p` works on its view. -/
def WithinView (p : Port) (s t : State) : Prop :=
  SameTime s t ∧ SameAxes s t ∧ SameTable s t ∧ SameLines s t ∧ SameNotes s t ∧ SameSessions s t ∧ SameRights s t ∧
    SameOtherLinks p s t ∧ ∀ q, q ≠ p → t.view q = s.view q

section

variable {p : Port} {s u : State} {req : Request} {r : Result} {data : List Byte}

theorem WithinRights.complete (h : WithinRights p s u) : WithinRights p s (u.complete p req r data) := by
  simpa [WithinRights, SameTime, SameAxes, SameTable, SameLines, SameNotes, SameViews, SameSessions,
    sameOtherLinks_complete_iff] using h

theorem WithinAxisMarks.complete (h : WithinAxisMarks p s u) : WithinAxisMarks p s (u.complete p req r data) := by
  simpa [WithinAxisMarks, SameTime, SameTable, SameLines, SameNotes, SameViews, SameSessions, SameRights,
    sameOtherLinks_complete_iff] using h

theorem WithinReference.complete (h : WithinReference p s u) : WithinReference p s (u.complete p req r data) := by
  simpa [WithinReference, SameTime, SameSessions, SameRights, sameOtherLinks_complete_iff] using h

theorem WithinTable.complete (h : WithinTable p s u) : WithinTable p s (u.complete p req r data) := by
  simpa [WithinTable, SameTime, SameAxes, SameLines, SameNotes, SameViews, SameSessions, SameRights,
    sameOtherLinks_complete_iff] using h

theorem WithinLines.complete (h : WithinLines p s u) : WithinLines p s (u.complete p req r data) := by
  simpa [WithinLines, SameTime, SameAxes, SameTable, SameNotes, SameViews, SameSessions, SameRights,
    sameOtherLinks_complete_iff] using h

theorem WithinNotes.complete (h : WithinNotes p s u) : WithinNotes p s (u.complete p req r data) := by
  simpa [WithinNotes, SameTime, SameAxes, SameLines, SameViews, SameSessions, SameRights,
    sameOtherLinks_complete_iff] using h

theorem WithinView.complete (h : WithinView p s u) : WithinView p s (u.complete p req r data) := by
  simpa [WithinView, SameTime, SameAxes, SameTable, SameLines, SameNotes, SameSessions, SameRights,
    sameOtherLinks_complete_iff] using h

end

/-- A relation that holds of a state with itself, and behind the end of a command, holds behind the command if it holds
behind its effects. -/
theorem State.runCommand_within {W : State → State → Prop} {c : Cmd} {p : Port} {s : State}
    {body : List Byte → State → Reply} (hsame : W s s)
    (hcomplete : ∀ {u req r data}, W s u → W s (u.complete p req r data))
    (hbody : ∀ ps s' data, body ps s = .ok s' data → W s s') : W s (s.runCommand c p body) :=
  State.runCommand_related hsame (fun _ _ _ _ => hcomplete) fun req s' data _ hb => hbody req.params s' data hb

/-! ### The commands -/

section

variable {p : Port} {s t : State}

theorem withinRights_refl (p : Port) (s : State) : WithinRights p s s := by
  simp [WithinRights, SameTime, SameAxes, SameTable, SameLines, SameNotes, SameViews, SameSessions, SameOtherLinks]

theorem axisRights_within {c : Instr} (hc : c ∈ [Instr.axisClaim p, .axisRelease p]) (h : exec c s = .next t) :
    WithinRights p s t := by
  have hset : ∀ (a : Axis) (o : Option Port), (∀ q, q ≠ p → (o = some q ↔ s.axisRight a = some q)) →
      WithinRights p s (s.setAxisRight a o) := fun a o ho => by
    refine ⟨⟨rfl, rfl, rfl, rfl⟩, ⟨rfl, rfl⟩, ⟨rfl, rfl, rfl, rfl, rfl⟩, rfl, rfl, rfl, ⟨rfl, rfl⟩, fun _ _ => rfl,
      fun b q hq => ?_⟩
    rw [State.setAxisRight_axisRight]
    split
    next hb => exact hb ▸ ho q hq
    next => exact Iff.rfl
  simp only [List.mem_cons, List.not_mem_nil, or_false] at hc
  obtain rfl | rfl := hc <;> cases h <;>
    refine State.runCommand_within (withinRights_refl p s) WithinRights.complete fun ps s' data hb => ?_
  · obtain ⟨a, hfree, rfl⟩ := axisClaimBody_effect hb
    exact hset a _ fun q hq => by simp [hfree, Ne.symm hq]
  · obtain ⟨a, howner, rfl⟩ := axisReleaseBody_effect hb
    exact hset a _ fun q hq => by simp [howner, Ne.symm hq]

theorem withinAxisMarks_setAxis (p : Port) (s : State) (a : Axis) {u : AxisUnit}
    (hu : u.position = (s.axis a).position ∧ u.revolution = (s.axis a).revolution ∧ u.epoch = (s.axis a).epoch ∧
      u.config = (s.axis a).config) : WithinAxisMarks p s (s.setAxis a u) := by
  refine ⟨⟨rfl, rfl, rfl, rfl⟩, ⟨rfl, rfl, rfl, rfl, rfl⟩, rfl, rfl, rfl, ⟨rfl, rfl⟩, rfl, fun _ _ => rfl, fun b => ?_⟩
  rw [State.setAxis_axis]
  split
  next hb => exact hb ▸ hu
  next => exact ⟨rfl, rfl, rfl, rfl⟩

theorem axisMarks_within {c : Instr} (hc : c ∈ [Instr.axisClearDoubt p, .axisRefarm p]) (h : exec c s = .next t) :
    WithinAxisMarks p s t := by
  have hsame : WithinAxisMarks p s s := by
    simp [WithinAxisMarks, SameTime, SameTable, SameLines, SameNotes, SameViews, SameSessions, SameRights,
      SameOtherLinks]
  simp only [List.mem_cons, List.not_mem_nil, or_false] at hc
  obtain rfl | rfl := hc <;> cases h <;>
    refine State.runCommand_within hsame WithinAxisMarks.complete fun ps s' data hb => ?_
  · obtain ⟨a, rfl⟩ := axisClearDoubtBody_effect hb
    exact withinAxisMarks_setAxis p s a ⟨rfl, rfl, rfl, rfl⟩
  · obtain ⟨a, r, rfl⟩ := axisRefarmBody_effect hb
    exact withinAxisMarks_setAxis p s a ⟨rfl, rfl, rfl, rfl⟩

theorem commandReference_masks (s : State) (a : Axis) (reason : Reason) (v : Word) (makers : Makers) (q : Port) :
    ((s.commandReference a reason v makers).view q).masks = (s.view q).masks := by
  simp [State.commandReference]

theorem withinReference_commandReference (p : Port) (s : State) (a : Axis) (reason : Reason) (v : Word)
    (makers : Makers) : WithinReference p s (s.commandReference a reason v makers) := by
  refine ⟨?_, ?_, ?_, ?_, fun q _ => ?_, commandReference_masks s a reason v makers⟩ <;>
    simp [SameTime, SameSessions, SameRights]

theorem axisSetPreset_within {c : Instr} (hc : c = .axisSet p ∨ ∃ makers, c = .axisPreset p makers)
    (h : exec c s = .next t) : WithinReference p s t := by
  have hsame : WithinReference p s s := by
    simp [WithinReference, SameTime, SameSessions, SameRights, SameOtherLinks]
  obtain rfl | ⟨makers, rfl⟩ := hc <;> cases h <;>
    refine State.runCommand_within hsame WithinReference.complete fun ps s' data hb => ?_
  · obtain ⟨a, c, -, -, rfl⟩ := axisSetBody_effect hb
    unfold State.configureAxis
    dsimp only
    split
    · exact withinReference_commandReference p (s.setAxis a ((s.axis a).configure c)) a .config 0 .axisFirst
    · exact hsame
  · obtain ⟨a, v, -, rfl⟩ := axisPresetBody_effect hb
    exact withinReference_commandReference p s a .preset v makers

/-- One slot of the port changed, or one that was FREE. -/
theorem slot_kept {n : SlotNo} {o : Option Trigger} (hn : ∀ u, s.slot n = some u → u.owner = p)
    (hslot : ∀ m, t.slot m = if m = n then o else s.slot m) (m : SlotNo) (u : Trigger) (hu : s.slot m = some u)
    (howner : u.owner ≠ p) : t.slot m = some u := by
  rw [hslot, if_neg, hu]
  rintro rfl
  exact howner (hn u hu)

theorem trigCommands_within {c : Instr} (hc : c ∈ [Instr.trigDefine p, .trigArm p, .trigDisarm p, .trigDelete p])
    (h : exec c s = .next t) : WithinTable p s t := by
  have hsame : WithinTable p s s :=
    ⟨⟨rfl, rfl, rfl, rfl⟩, ⟨rfl, rfl⟩, rfl, rfl, rfl, ⟨rfl, rfl⟩, rfl, fun _ _ => rfl, rfl, rfl, fun _ _ hu _ => hu,
      fun _ _ => rfl⟩
  have howned : ∀ {n u}, s.slot n = some u → u.owner = p → ∀ v, s.slot n = some v → v.owner = p :=
    fun hu ho v hv => by
      cases hu.symm.trans hv
      exact ho
  simp only [List.mem_cons, List.not_mem_nil, or_false] at hc
  obtain rfl | rfl | rfl | rfl := hc <;> cases h <;>
    refine State.runCommand_within hsame WithinTable.complete fun ps s' data hb => ?_
  · obtain ⟨d, u, n, -, -, -, -, hfree, rfl⟩ := trigDefineBody_effect hb
    exact ⟨⟨rfl, rfl, rfl, rfl⟩, ⟨rfl, rfl⟩, rfl, rfl, rfl, ⟨rfl, rfl⟩, rfl, fun _ _ => rfl, rfl, rfl,
      slot_kept (by simp [hfree]) (s.setSlot_slot n (some u)), fun q => State.setHeld_heldBy_ne _ p _⟩
  · obtain ⟨n, u, hu, ho, -, -, rfl⟩ := trigArmBody_effect hb
    exact ⟨⟨rfl, rfl, rfl, rfl⟩, ⟨rfl, rfl⟩, rfl, rfl, rfl, ⟨rfl, rfl⟩, rfl, fun _ _ => rfl, rfl, rfl,
      slot_kept (howned hu ho) (s.arm_slot n u), fun _ _ => rfl⟩
  · obtain ⟨n, u, hu, ho, -, rfl⟩ := trigDisarmBody_effect hb
    exact ⟨⟨rfl, rfl, rfl, rfl⟩, ⟨rfl, rfl⟩, rfl, rfl, rfl, ⟨rfl, rfl⟩, rfl, fun _ _ => rfl, rfl, rfl,
      slot_kept (howned hu ho) (s.unarm_slot n u .staged), fun _ _ => rfl⟩
  · obtain ⟨n, u, hu, ho, -, rfl⟩ := trigDeleteBody_effect hb
    have hkept := slot_kept (howned hu ho) (t := (s.unplace u.axis n).settleGiveUp n u) fun m => by
      rw [State.settleGiveUp_slot, State.unplace_slot]
    have hheld : ∀ q, q ≠ p → ((s.unplace u.axis n).settleGiveUp n u).heldBy q = s.heldBy q := fun q hq => by
      rw [State.settleGiveUp_heldBy, State.unplace_heldBy, ho, if_neg hq, ite_self]
    refine ⟨?_, ?_, ?_, ?_, ?_, ?_, ?_, fun q _ => ?_, ?_, ?_, hkept, hheld⟩ <;>
      simp [SameTime, SameAxes, SameLines, SameNotes, SameViews, SameSessions, SameRights]

theorem withinLines_setLine (p : Port) (s : State) (l : LineNo) (r : LineRec)
    (hl : ∀ q, (s.line l).owner = some q → q = p) : WithinLines p s (s.setLine l r) := by
  refine ⟨⟨rfl, rfl, rfl, rfl⟩, ⟨rfl, rfl⟩, ⟨rfl, rfl, rfl, rfl, rfl⟩, rfl, rfl, ⟨rfl, rfl⟩, rfl, fun _ _ => rfl,
    fun m q hq howner => State.setLine_line_ne _ _ _ fun hm => hq (hl q (hm ▸ howner))⟩

theorem lineCommands_within {c : Instr} (hc : c ∈ [Instr.lineClaim p, .lineRelease p, .lineDrive p])
    (h : exec c s = .next t) : WithinLines p s t := by
  have hsame : WithinLines p s s := by
    simp [WithinLines, SameTime, SameAxes, SameTable, SameNotes, SameViews, SameSessions, SameRights, SameOtherLinks]
  simp only [List.mem_cons, List.not_mem_nil, or_false] at hc
  obtain rfl | rfl | rfl := hc <;> cases h <;>
    refine State.runCommand_within hsame WithinLines.complete fun ps s' data hb => ?_
  · obtain ⟨l, polarity, release, hfree, rfl⟩ := lineClaimBody_effect hb
    exact withinLines_setLine p s l _ (by simp [hfree])
  · obtain ⟨l, howner, -, rfl⟩ := lineReleaseBody_effect hb
    exact withinLines_setLine p s l _ fun q hq => Option.some.inj (hq.symm.trans howner)
  · obtain ⟨l, act, howner, rfl⟩ := lineDriveBody_effect hb
    exact withinLines_setLine p s l _ fun q hq => Option.some.inj (hq.symm.trans howner)

/-- The messages of a move change slots and held counts alone (R44). -/
theorem acknowledged_eq (s : State) (p : Port) (m : Moved) :
    s.acknowledged p m = { s.setNote p ((s.note p).afterMove m) with
      slots := (s.acknowledged p m).slots, held := (s.acknowledged p m).held } := by
  have hone : ∀ (u : State) (n : SlotNo),
      u.lastOwedMoved n = { u with slots := (u.lastOwedMoved n).slots, held := (u.lastOwedMoved n).held } :=
    fun u n => by
      unfold State.lastOwedMoved
      split
      · split <;> rfl
      · rfl
  have hfold : ∀ (l : List SlotNo) (u : State), l.foldl (fun (s : State) n => s.lastOwedMoved n) u =
      { u with slots := (l.foldl (fun (s : State) n => s.lastOwedMoved n) u).slots,
               held := (l.foldl (fun (s : State) n => s.lastOwedMoved n) u).held } := fun l => by
    induction l with
    | nil => exact fun u => rfl
    | cons n l ih =>
      intro u
      rw [List.foldl_cons]
      refine (ih (u.lastOwedMoved n)).trans ?_
      exact congrArg (fun v : State => { v with
        slots := (l.foldl (fun (s : State) n => s.lastOwedMoved n) (u.lastOwedMoved n)).slots
        held := (l.foldl (fun (s : State) n => s.lastOwedMoved n) (u.lastOwedMoved n)).held }) (hone u n)
  exact hfold m.freed _

theorem noteAck_within (h : exec (.noteAck p) s = .next t) : WithinNotes p s t := by
  have hsame : WithinNotes p s s := by
    simp [WithinNotes, SameTime, SameAxes, SameLines, SameViews, SameSessions, SameRights, SameOtherLinks]
  cases h
  refine State.runCommand_within hsame WithinNotes.complete fun ps s' data hb => ?_
  obtain ⟨k, rfl⟩ := noteAckBody_effect hb
  rw [acknowledged_eq]
  exact ⟨⟨rfl, rfl, rfl, rfl⟩, ⟨rfl, rfl⟩, rfl, rfl, ⟨rfl, rfl⟩, rfl, fun _ _ => rfl, rfl, rfl, rfl,
    fun _ => State.setNote_note_ne s p _⟩

theorem withinView_setView (p : Port) (s : State) (v : View) : WithinView p s (s.setView p v) :=
  ⟨⟨rfl, rfl, rfl, rfl⟩, ⟨rfl, rfl⟩, ⟨rfl, rfl, rfl, rfl, rfl⟩, rfl, rfl, ⟨rfl, rfl⟩, rfl, fun _ _ => rfl,
    fun _ => State.setView_view_ne s p v⟩

theorem WithinView.setLink {u : State} (h : WithinView p s u) (l : Link) : WithinView p s (u.setLink p l) := by
  obtain ⟨htime, haxes, htable, hlines, hnotes, hsessions, hrights, hlinks, hviews⟩ := h
  exact ⟨htime, haxes, htable, hlines, hnotes, hsessions, hrights,
    fun q hq => (State.setLink_link_ne u p l hq).trans (hlinks q hq), hviews⟩

theorem viewCommands_within {c : Instr} (hc : c ∈ [Instr.subscribe p, .snapAxisStep p]) (h : exec c s = .next t) :
    WithinView p s t := by
  have hsame : WithinView p s s := by
    simp [WithinView, SameTime, SameAxes, SameTable, SameLines, SameNotes, SameSessions, SameRights, SameOtherLinks]
  simp only [List.mem_cons, List.not_mem_nil, or_false] at hc
  obtain rfl | rfl := hc
  · cases h
    refine State.runCommand_within hsame WithinView.complete fun ps s' data hb => ?_
    obtain ⟨a, mask, rfl⟩ := subscribeBody_effect hb
    exact withinView_setView p s _
  · simp only [exec, execSnapAxisStep] at h
    split at h
    next req a rest flags records _ =>
      have hreset : WithinView p s (s.resetContext p a) := withinView_setView p s _
      split at h
      · cases h
        exact hreset.complete
      · cases h
        exact hreset.setLink _
    next =>
      cases h
      exact hsame

/-- What the table takes does not reach the axes, the sessions, the links and the arbiter. -/
theorem tableRecords_within {a : Axis} {c : Instr} (hc : c ∈ [Instr.matchCountArrival a, .referenceRecord a])
    (h : exec c s = .next t) : SameTime s t ∧ SameAxes s t ∧ SameViews s t ∧ SameSessions s t ∧ SameRights s t ∧
      SameLinks s t ∧ SameArbiter s t := by
  have htaken : ∀ rest (r : AxisRecord), SameTime s ((s.setInbox a rest).takeRecord r) ∧
      SameAxes s ((s.setInbox a rest).takeRecord r) ∧ SameViews s ((s.setInbox a rest).takeRecord r) ∧
      SameSessions s ((s.setInbox a rest).takeRecord r) ∧ SameRights s ((s.setInbox a rest).takeRecord r) ∧
      SameLinks s ((s.setInbox a rest).takeRecord r) ∧ SameArbiter s ((s.setInbox a rest).takeRecord r) :=
    fun rest r => by simp [SameTime, SameAxes, SameViews, SameSessions, SameRights, SameLinks, SameArbiter]
  have hsame : SameTime s s ∧ SameAxes s s ∧ SameViews s s ∧ SameSessions s s ∧ SameRights s s ∧ SameLinks s s ∧
      SameArbiter s s := by
    simp [SameTime, SameAxes, SameViews, SameSessions, SameRights, SameLinks, SameArbiter]
  simp only [List.mem_cons, List.not_mem_nil, or_false] at hc
  obtain rfl | rfl := hc
  · simp only [exec, execMatchCountArrival] at h
    split at h
    next r rest _ =>
      cases h
      exact htaken rest (.arrival r)
    next =>
      cases h
      exact hsame
  · simp only [exec, execReferenceRecord] at h
    split at h
    next r rest _ =>
      cases h
      exact htaken rest (.reference r)
    next =>
      cases h
      exact hsame

theorem pulseExpiry_within {l : LineNo} (h : exec (.pulseExpiry l) s = .next t) :
    SameTime s t ∧ SameAxes s t ∧ SameTable s t ∧ SameNotes s t ∧ SameViews s t ∧ SameSessions s t ∧ SameRights s t ∧
      SameLinks s t ∧ SameArbiter s t ∧ ∀ m, m ≠ l → t.line m = s.line m := by
  cases h
  split
  · exact ⟨⟨rfl, rfl, rfl, rfl⟩, ⟨rfl, rfl⟩, ⟨rfl, rfl, rfl, rfl, rfl⟩, rfl, rfl, ⟨rfl, rfl⟩, rfl, rfl, ⟨rfl, rfl, rfl⟩,
      fun m => State.setLine_line_ne s l _⟩
  · exact ⟨⟨rfl, rfl, rfl, rfl⟩, ⟨rfl, rfl⟩, ⟨rfl, rfl, rfl, rfl, rfl⟩, rfl, rfl, ⟨rfl, rfl⟩, rfl, rfl, ⟨rfl, rfl, rfl⟩,
      fun _ _ => rfl⟩

end

/-! ### An accepted change -/

/-- What an event on axis `a` leaves: time, sessions, rights, links, arbiter, the other axes and the masks; and the table
with the lines, as long as no unit hears the table first (R186). -/
structure EventAt (a : Axis) (makers : Makers) (s t : State) : Prop where
  time : SameTime s t
  pins : t.pins = s.pins
  sessions : SameSessions s t
  rights : SameRights s t
  links : SameLinks s t
  arbiter : SameArbiter s t
  others : ∀ b, b ≠ a → t.axis b = s.axis b ∧ t.inbox b = s.inbox b
  masks : ∀ q, (t.view q).masks = (s.view q).masks
  table : makers = .axisFirst →
    t.slots = s.slots ∧ t.armLists = s.armLists ∧ t.held = s.held ∧ t.tableEpoch = s.tableEpoch ∧ SameLines s t

namespace EventAt

variable {a : Axis} {makers : Makers} {s t u : State}

theorem refl (a : Axis) (makers : Makers) (s : State) : EventAt a makers s s :=
  ⟨⟨rfl, rfl, rfl, rfl⟩, rfl, ⟨rfl, rfl⟩, rfl, rfl, ⟨rfl, rfl, rfl⟩, fun _ _ => ⟨rfl, rfl⟩, fun _ => rfl,
    fun _ => ⟨rfl, rfl, rfl, rfl, rfl⟩⟩

theorem trans (h : EventAt a makers s t) (h' : EventAt a makers t u) : EventAt a makers s u := by
  obtain ⟨⟨t₁, t₂, t₃, t₄⟩, hpins, ⟨s₁, s₂⟩, hrights, hlinks, ⟨a₁, a₂, a₃⟩, hothers, hmasks, htable⟩ := h
  obtain ⟨⟨t₁', t₂', t₃', t₄'⟩, hpins', ⟨s₁', s₂'⟩, hrights', hlinks', ⟨a₁', a₂', a₃'⟩, hothers', hmasks', htable'⟩ := h'
  refine ⟨⟨t₁'.trans t₁, t₂'.trans t₂, t₃'.trans t₃, t₄'.trans t₄⟩, hpins'.trans hpins, ⟨s₁'.trans s₁, s₂'.trans s₂⟩,
    Eq.trans hrights' hrights, Eq.trans hlinks' hlinks, ⟨a₁'.trans a₁, a₂'.trans a₂, a₃'.trans a₃⟩, fun b hb => ?_,
    fun q => (hmasks' q).trans (hmasks q), fun hm => ?_⟩
  · obtain ⟨haxis, hinbox⟩ := hothers b hb
    obtain ⟨haxis', hinbox'⟩ := hothers' b hb
    exact ⟨haxis'.trans haxis, hinbox'.trans hinbox⟩
  · obtain ⟨b₁, b₂, b₃, b₄, b₅⟩ := htable hm
    obtain ⟨b₁', b₂', b₃', b₄', b₅'⟩ := htable' hm
    exact ⟨b₁'.trans b₁, b₂'.trans b₂, b₃'.trans b₃, b₄'.trans b₄, Eq.trans b₅' b₅⟩

variable (a makers s)

theorem setAxis (v : AxisUnit) : EventAt a makers s (s.setAxis a v) :=
  ⟨⟨rfl, rfl, rfl, rfl⟩, rfl, ⟨rfl, rfl⟩, rfl, rfl, ⟨rfl, rfl, rfl⟩,
    fun _ hb => ⟨s.setAxis_axis_ne a v hb, rfl⟩, fun _ => rfl, fun _ => ⟨rfl, rfl, rfl, rfl, rfl⟩⟩

theorem forContexts (g : Context → Context) : EventAt a makers s (s.forContexts a g) :=
  ⟨⟨rfl, rfl, rfl, rfl⟩, rfl, ⟨rfl, rfl⟩, rfl, rfl, ⟨rfl, rfl, rfl⟩, fun _ _ => ⟨rfl, rfl⟩,
    fun q => by rw [State.forContexts_view], fun _ => ⟨rfl, rfl, rfl, rfl, rfl⟩⟩

theorem handToTable (r : AxisRecord) : EventAt a makers s (s.handToTable a r) :=
  ⟨⟨rfl, rfl, rfl, rfl⟩, rfl, ⟨rfl, rfl⟩, rfl, rfl, ⟨rfl, rfl, rfl⟩,
    fun _ hb => ⟨rfl, s.setInbox_inbox_ne a _ hb⟩, fun _ => rfl, fun _ => ⟨rfl, rfl, rfl, rfl, rfl⟩⟩

theorem onlyNotes {a : Axis} {makers : Makers} {s t : State} (h : OnlyNotes s t) : EventAt a makers s t := by
  rw [OnlyNotes] at h
  rw [h]
  exact ⟨⟨rfl, rfl, rfl, rfl⟩, rfl, ⟨rfl, rfl⟩, rfl, rfl, ⟨rfl, rfl, rfl⟩, fun _ _ => ⟨rfl, rfl⟩, fun _ => rfl,
    fun _ => ⟨rfl, rfl, rfl, rfl, rfl⟩⟩

/-- Sharing out what an event has made reaches the table only if some unit hears the table first. -/
theorem shareEvent (note : Option Report) : EventAt a makers s (s.shareEvent a makers false note) where
  time := by simp [SameTime]
  pins := by simp
  sessions := by simp [SameSessions]
  rights := by simp [SameRights]
  links := by simp [SameLinks]
  arbiter := by simp [SameArbiter]
  others b hb := by
    refine ⟨by simp, ?_⟩
    unfold State.shareEvent
    dsimp only
    split
    · rw [State.routeIn_inbox, State.drain_inbox_ne _ _ _ hb, State.routeIn_inbox]
    · rw [State.routeIn_inbox]
  masks q := by simp
  table hm := by
    subst hm
    rw [State.shareEvent_axisFirst]
    simp [SameLines]

theorem countArrival (dir : CountDir) : EventAt a makers s (s.countArrival a dir makers) :=
  ((setAxis a makers s _).trans ((forContexts a makers _ _).trans (handToTable a makers _ _))).trans
    ((setAxis a makers (s.countMoved a dir) _).trans (shareEvent a makers _ _))

theorem phaseSkip : EventAt a makers s (s.phaseSkip a) := by
  unfold State.phaseSkip
  dsimp only
  split
  · exact refl a makers s
  · exact (setAxis a makers s _).trans ((forContexts a makers _ _).trans (onlyNotes (State.route_onlyNotes _ _)))

theorem edgeReference (reason : Reason) (v : Word) : EventAt a makers s (s.edgeReference a reason v makers) :=
  ((setAxis a makers s _).trans ((forContexts a makers _ _).trans (handToTable a makers _ _))).trans
    (shareEvent a makers _ _)

theorem takeDecoded (d : Decoded) : EventAt a makers s (s.takeDecoded a makers d) := by
  cases d with
  | nothing => exact refl a makers s
  | count dir => exact countArrival a makers s dir
  | phaseSkip => exact phaseSkip a makers s

theorem takeRefAction (x : RefAction) : EventAt a makers s (s.takeRefAction a makers x) := by
  cases x with
  | nothing => exact refl a makers s
  | toWaitIndex => exact setAxis a makers s _
  | take reason next => exact (setAxis a makers s _).trans (edgeReference a makers _ reason _)

end EventAt

theorem acceptedChange_within {a : Axis} {inputs : InputPair} {makers : Makers} {s t : State}
    (h : exec (.acceptedChange a inputs makers) s = .next t) : EventAt a makers s t := by
  cases hdue : (s.axis a).pairDue inputs with
  | false =>
    rw [exec_acceptedChange_notDue hdue] at h
    cases h
    exact .refl a makers s
  | true =>
    cases inputs with
    | phases =>
      rw [exec_acceptedChange_phases hdue] at h
      cases h
      exact (EventAt.setAxis a makers s _).trans (.takeDecoded a makers _ _)
    | references =>
      rw [exec_acceptedChange_references hdue rfl rfl] at h
      cases h
      exact (EventAt.setAxis a makers s _).trans (.takeRefAction a makers _ _)

/-- Settles O51: one lemma for each group of commands. -/
theorem commandsStayInTheirBlocks : Obligations.CommandsStayInTheirBlocks := by
  refine fun p c s t h => ⟨fun hc => axisRights_within hc h, fun hc => axisMarks_within hc h,
    fun hc => axisSetPreset_within hc h, fun hc => trigCommands_within hc h, fun hc => lineCommands_within hc h,
    fun hc => ?_, fun hc => viewCommands_within hc h, fun a hc => tableRecords_within hc h, fun l hc => ?_,
    fun a inputs makers hc => ?_⟩
  · subst hc
    exact noteAck_within h
  · subst hc
    exact pulseExpiry_within h
  · subst hc
    obtain ⟨htime, hpins, hsessions, hrights, hlinks, harbiter, hothers, hmasks, htable⟩ := acceptedChange_within h
    exact ⟨htime, hpins, hsessions, hrights, hlinks, harbiter, hothers, hmasks, htable⟩

end Sys2Proof.Machine
